-- ==== Sys2Proof/Word.lean ====
section
/-! DEFINITION. The word types of the machine (rule R8: XLEN = 8, ALEN = 16) and their plainest arithmetic. -/

namespace Sys2Proof

/-- A byte: the width of a general register and of one location of the address space (R8 XLEN, R80). -/
abbrev Byte := BitVec 8

/-- A 16-bit word: an address, SP, PC or a register pair (R8 ALEN). -/
abbrev Word := BitVec 16

/-- `hi ++ lo`, high byte first (R10, R26). -/
abbrev Word.ofBytes (hi lo : Byte) : Word := hi ++ lo

/-- Bits 15:8 of a word. -/
abbrev Word.hi (w : Word) : Byte := w.extractLsb' 8 8

/-- Bits 7:0 of a word. -/
abbrev Word.lo (w : Word) : Byte := w.extractLsb' 0 8

end Sys2Proof
end

