-- ==== Sys2Proof/Config.lean ====
section
/-! DEFINITION. The implementation parameters of rule R8 that stay arguments of the model, what makes them admissible, and the
external collaborators' behaviour, which the spec leaves to any device meeting the interface (R112, R114, R115). A value
that R8 fixes is a constant beside the rule that uses it; the default values stand in Machine/Params.lean. -/

namespace Sys2Proof

/-- The console variant `MODEL` (R2, R8), fixed at `LoadROM` by the cartridge's CGB-support flag. -/
inductive Model where
  | dmg
  | cgb
  deriving DecidableEq, Repr

/-- One pixel of the framebuffer: the four bytes R, G, B, A, R in the high byte (R43). -/
abbrev Rgba := BitVec 32

/-- The parameters of R8 that are OPEN or of which R8 or file 93 admits more than one value. They are held in the state and
no instruction or event changes them: a statement about every state is a statement about every value of them. -/
structure Config where
  /-- `MODEL` -/
  model : Model
  /-- `M3_EXTRA(n)` for n = 0..10 (R322) -/
  m3Extra : Vector Nat 11
  /-- `SAMPLE_PERIOD` (R419) -/
  samplePeriod : Nat
  /-- `OAM_DMA_DELAY` (R451) -/
  oamDmaDelay : Nat
  /-- `GDMA_CYCLES_PER_BYTE` (R462) -/
  gdmaCyclesPerByte : Nat
  /-- `EI_DELAY`: true is 1, false is 0 (R307) -/
  eiDelay : Bool
  /-- `DMG_SHADES[0..3]` (R349) -/
  dmgShades : Vector Rgba 4
  /-- `BOOTROM`, absent by default (R88, R511) -/
  bootRom : Option (List Byte)
  /-- `DIV_RESET`: the internal counter after `Reset(true)` (R442) -/
  divReset : Nat
  deriving DecidableEq, Repr

namespace Config

/-- The admissible values of R8: `M3_EXTRA(0) = 0`, every `M3_EXTRA(n) <= 203`, a positive `SAMPLE_PERIOD`; a boot image is no
longer than the longest of the two that R88 names, 2304 bytes. -/
abbrev Admissible (c : Config) : Prop :=
  c.m3Extra[0] = 0 ∧ (∀ n : Fin 11, c.m3Extra[n] ≤ 203) ∧ 0 < c.samplePeriod ∧ (c.bootRom.getD []).length ≤ 2304

/-- The magic value and the version in the header of a save state, which the spec leaves open (R530). -/
opaque saveMagic : Nat × Nat

end Config

/-- The metadata a cartridge exposes (R112); its CGB-support flag fixes `MODEL` at `LoadROM` (R8). -/
structure CartInfo where
  /-- the title, as the bytes of the header -/
  title : List Byte
  /-- the CGB-support flag -/
  cgbSupport : Bool
  /-- the size of the cartridge RAM in bytes -/
  ramSize : Nat
  deriving DecidableEq, Repr

/-! The collaborators. A device of the spec's interfaces is any deterministic device. The joypad's and the serial port's state is
held as what their `Read` shows now, together with a number that stands for everything else they remember; the cartridge's as one
number that stands for all of it, its ROM image apart, which is no state (R75). What a `Read` makes of that number, and a `Write`
or a host call of them all, is left free: these constants have no body. -/
namespace Collab

/-- `CART.Read(addr)` from the ROM image and the cartridge's own state, where it is not the ROM image without a bank controller
(R112). -/
opaque cartRead : List Host.Cell → Nat → Word → Byte

/-- `CART.Write(addr, v)`: the cartridge's new state, from the ROM image and its state (R112). -/
opaque cartWrite : List Host.Cell → Nat → Word → Byte → Nat

/-- What the cartridge makes of being told that the console was reset (R512: outside the CORE). -/
opaque cartReset : List Host.Cell → Nat → Nat

/-- `JOYPAD.Write(v)` on the byte JOYP shows and the hidden state (R114). -/
opaque joypadWrite : Byte → Nat → Byte → Byte × Nat

/-- `SetKeyInput(button, pressed)`: the new visible byte and hidden state, and whether it calls `RequestInterrupt(4)` (R114). -/
opaque joypadKey : Byte → Nat → Nat → Bool → Byte × Nat × Bool

/-- What the joypad makes of a console reset (R512). -/
opaque joypadReset : Byte → Nat → Byte × Nat

/-- `SERIAL.Write(addr, v)`: `true` is SC, `false` is SB; on the bytes SB and SC show and the hidden state (R115). -/
opaque serialWrite : Byte → Byte → Nat → Bool → Byte → Byte × Byte × Nat

/-- Serial activity between iterations, from what SB and SC show, the hidden state and the cycle it happens at: the new visible
bytes and hidden state, and whether it calls `RequestInterrupt(3)` (R115, R483). -/
opaque serialTick : Byte → Byte → Nat → Nat → Byte × Byte × Nat × Bool

/-- What the serial port makes of a console reset (R512). -/
opaque serialReset : Byte → Byte → Nat → Byte × Byte × Nat

/-- `LoadROM(bytes)`: `none` is a configuration error; otherwise the cartridge's metadata, whether it has no bank controller, and
its first state (R112, R113, R498: a well-formed header is the cartridge's business). -/
opaque loadRom : List Byte → Option (CartInfo × Bool × Nat)

end Collab

end Sys2Proof
end

