-- ==== Sys2Proof/Machine/Memory.lean ====
section
/-! DEFINITION. Memories as plain data: a list of (key, value) pairs in one canonical form, keys strictly rising and no entry
equal to what an unlisted key reads as. The byte memories of rules R37 to R42 and the ROM image read 0 where
nothing is listed; the framebuffer (R43) is the same list with the blank colour as its unlisted value. -/

namespace Sys2Proof.Machine

/-- The value at key `k`, where an unlisted key reads as `dflt`. -/
def sparseGet {β : Type} (dflt : β) : List (Nat × β) → Nat → β
  | [], _ => dflt
  | (k', v) :: rest, k => if k = k' then v else if k < k' then dflt else sparseGet dflt rest k

/-- Write `v` at key `k`, keeping the canonical form: writing the unlisted value removes the entry. -/
def sparseSet {β : Type} [DecidableEq β] (dflt : β) : List (Nat × β) → Nat → β → List (Nat × β)
  | [], k, v => if v = dflt then [] else [(k, v)]
  | (k', v') :: rest, k, v =>
    if k = k' then (if v = dflt then rest else (k, v) :: rest)
    else if k < k' then (if v = dflt then (k', v') :: rest else (k, v) :: (k', v') :: rest)
    else (k', v') :: sparseSet dflt rest k v

/-- The canonical form below `lo`-based keys: strictly rising, all in `[lo, hi)`, no entry equal to `dflt`. -/
def sparseWf {β : Type} [DecidableEq β] (dflt : β) (hi : Nat) : Nat → List (Nat × β) → Bool
  | _, [] => true
  | lo, (k, v) :: rest => decide (lo ≤ k) && decide (k < hi) && decide (v ≠ dflt) && sparseWf dflt hi (k + 1) rest

/-- The canonical list of the values of a list, keys counted from `k` on. -/
def sparseOfList {β : Type} [DecidableEq β] (dflt : β) : Nat → List β → List (Nat × β)
  | _, [] => []
  | k, v :: rest => if v = dflt then sparseOfList dflt (k + 1) rest else (k, v) :: sparseOfList dflt (k + 1) rest

/-- A byte memory: an unlisted byte is 0 (R514: VRAM, OAM, WRAM, HRAM and WAVE are all zero at reset). -/
abbrev Memory := List Host.Cell

namespace Memory

/-- What an unlisted byte reads as. -/
def unlisted : Byte := 0

/-- The byte at offset `k`. -/
def read (m : Memory) (k : Nat) : Byte := sparseGet unlisted m k

/-- Store `v` at offset `k`. -/
def write (m : Memory) (k : Nat) (v : Byte) : Memory := sparseSet unlisted m k v

/-- The canonical form of a memory of `size` bytes. -/
def wf (size : Nat) (m : Memory) : Bool := sparseWf unlisted size 0 m

/-- The memory whose byte `k` is the `k`-th byte of a list. -/
def ofBytes (bytes : List Byte) : Memory := sparseOfList unlisted 0 bytes

end Memory

end Sys2Proof.Machine
end

