-- ==== Sys2Proof/Machine/Params.lean ====
section
/-! DEFINITION. The default values of the open parameters (R8, column "value"). -/

namespace Sys2Proof.Machine

/-- Suggested `M3_EXTRA(n) = 6 * n` (R322). -/
def defaultM3Extra : Vector Nat 11 := #v[0, 6, 12, 18, 24, 30, 36, 42, 48, 54, 60]

/-- The default grey shades, bytes R, G, B, A (R8 `DMG_SHADES`). -/
def defaultShades : Vector Rgba 4 := #v[0xFFFFFFFF, 0xAAAAAAFF, 0x555555FF, 0x000000FF]

/-- The parameters at their defaults for a console of the given variant (R8). -/
def defaultConfig (model : Model) : Config where
  model := model
  m3Extra := defaultM3Extra
  samplePeriod := 128
  oamDmaDelay := 640
  gdmaCyclesPerByte := 2
  eiDelay := true
  dmgShades := defaultShades
  bootRom := none
  divReset := 0

end Sys2Proof.Machine
end

