-- ==== Sys2Proof/Machine/Queue.lean ====
section
/-! DEFINITION. The due-ordered queue of the scheduler as a list of (handle, due) pairs (R22, R173, R175). -/

namespace Sys2Proof.Machine

/-- Insert an entry after every entry that is due no later: ascending by due cycle, first in first out among equals (R173). -/
def enqueue {α : Type} (h : α) (due : Int) : List (α × Int) → List (α × Int)
  | [] => [(h, due)]
  | (h', t) :: rest => if t ≤ due then (h', t) :: enqueue h due rest else (h, due) :: (h', t) :: rest

/-- Whether a handle is pending (R171). -/
def isQueued {α : Type} [DecidableEq α] (h : α) (q : List (α × Int)) : Bool := q.any (fun p => p.1 = h)

/-- Remove a handle's entry, keeping the order of the others (R175). -/
def dequeue {α : Type} [DecidableEq α] (h : α) (q : List (α × Int)) : List (α × Int) := q.filter (fun p => p.1 ≠ h)

end Sys2Proof.Machine
end

