-- ==== Sys2Proof/Syntax.lean ====
section
/-! DEFINITION. The instruction set as syntax: `Instr`, one constructor per row of spec/opcode_table.json (the eleven rows
without a table entry share one, with the opcode as its operand), and `Form`, the generic form each row is written for (the
table's own column `form`) with the row's field values. `Instr.form` and `Form.instr` pass between a row and its form. -/

namespace Sys2Proof

/-- The registers of the 3-bit register field, all values but 6 (R143). -/
inductive Reg8 where
  | b | c | d | e | h | l | a
  deriving DecidableEq, Repr

/-- What the 3-bit register field denotes: a register, or for value 6 the byte at HL (R143). -/
inductive Operand8 where
  | reg (r : Reg8)
  | atHL
  deriving DecidableEq, Repr

/-- The register pairs of field `rr` (R144). -/
inductive Pair where
  | bc | de | hl | sp
  deriving DecidableEq, Repr

/-- The register pairs of field `rr2`, used by `PUSH` and `POP` (R145). -/
inductive StackPair where
  | bc | de | hl | af
  deriving DecidableEq, Repr

/-- The conditions of field `cc` (R146). -/
inductive Cond where
  | nz | z | nc | c
  deriving DecidableEq, Repr

/-- The accumulator operations of field `alu` (R147). -/
inductive AluOp where
  | add | adc | sub | sbc | and | xor | or | cp
  deriving DecidableEq, Repr

/-- The rotates and shifts of field `rot` (R148). -/
inductive RotOp where
  | rlc | rrc | rl | rr | sla | sra | swap | srl
  deriving DecidableEq, Repr

/-- A value of the 3-bit field `y` used as a bit number or a restart target (R149). -/
inductive Oct where
  | o0 | o1 | o2 | o3 | o4 | o5 | o6 | o7
  deriving DecidableEq, Repr

/-- The number a 3-bit field holds. -/
def Oct.toNat : Oct → Nat
  | .o0 => 0 | .o1 => 1 | .o2 => 2 | .o3 => 3 | .o4 => 4 | .o5 => 5 | .o6 => 6 | .o7 => 7

/-- The generic forms of the opcode table with their fields; the docstring names the rule of each. -/
inductive Form where
  /-- `LD r,r'` (R210) -/
  | ldRR (dst src : Reg8)
  /-- `LD r,n` (R211) -/
  | ldRN (dst : Reg8) (n : Byte)
  /-- `LD r,(HL)` (R212) -/
  | ldRM (dst : Reg8)
  /-- `LD (HL),r` (R213) -/
  | ldMR (src : Reg8)
  /-- `LD (HL),n` (R214) -/
  | ldMN (n : Byte)
  /-- `LD A,(BC)` (R215) -/
  | ldABC
  /-- `LD A,(DE)` (R216) -/
  | ldADE
  /-- `LD (BC),A` (R217) -/
  | ldBCA
  /-- `LD (DE),A` (R218) -/
  | ldDEA
  /-- `LD A,(nn)` (R219) -/
  | ldANN (nn : Word)
  /-- `LD (nn),A` (R220) -/
  | ldNNA (nn : Word)
  /-- `LDH A,(C)` (R221) -/
  | ldhAC
  /-- `LDH (C),A` (R222) -/
  | ldhCA
  /-- `LDH A,(n)` (R223) -/
  | ldhAN (n : Byte)
  /-- `LDH (n),A` (R224) -/
  | ldhNA (n : Byte)
  /-- `LD A,(HL-)` (R225) -/
  | ldAHLd
  /-- `LD (HL-),A` (R226) -/
  | ldHLdA
  /-- `LD A,(HL+)` (R227) -/
  | ldAHLi
  /-- `LD (HL+),A` (R228) -/
  | ldHLiA
  /-- `LD rr,nn` (R229) -/
  | ldPairNN (p : Pair) (nn : Word)
  /-- `LD (nn),SP` (R230) -/
  | ldNNSP (nn : Word)
  /-- `LD SP,HL` (R231) -/
  | ldSPHL
  /-- `PUSH rr` (R232) -/
  | push (q : StackPair)
  /-- `POP rr` (R233) -/
  | pop (q : StackPair)
  /-- `LD HL,SP+e` (R234) -/
  | ldHLSPe (e : Byte)
  /-- an accumulator operation on a register (R240 to R248) -/
  | aluR (op : AluOp) (src : Reg8)
  /-- the same on the byte at HL -/
  | aluM (op : AluOp)
  /-- the same on an immediate byte -/
  | aluN (op : AluOp) (n : Byte)
  /-- `INC r` (R249) -/
  | incR (r : Reg8)
  /-- `INC (HL)` (R250) -/
  | incM
  /-- `DEC r` (R251) -/
  | decR (r : Reg8)
  /-- `DEC (HL)` (R252) -/
  | decM
  /-- `DAA` (R253) -/
  | daa
  /-- `CPL` (R254) -/
  | cpl
  /-- `SCF` (R255) -/
  | scf
  /-- `CCF` (R256) -/
  | ccf
  /-- `ADD HL,rr` (R257) -/
  | addHL (p : Pair)
  /-- `INC rr` (R258) -/
  | incPair (p : Pair)
  /-- `DEC rr` (R259) -/
  | decPair (p : Pair)
  /-- `ADD SP,e` (R260) -/
  | addSPe (e : Byte)
  /-- `RLCA` (R270) -/
  | rlca
  /-- `RRCA` (R271) -/
  | rrca
  /-- `RLA` (R272) -/
  | rla
  /-- `RRA` (R273) -/
  | rra
  /-- a rotate or shift of a register (R275 to R282) -/
  | rotR (rot : RotOp) (r : Reg8)
  /-- the same of the byte at HL -/
  | rotM (rot : RotOp)
  /-- `BIT b,r` (R283) -/
  | bitR (b : Oct) (r : Reg8)
  /-- `BIT b,(HL)` (R283) -/
  | bitM (b : Oct)
  /-- `RES b,r` (R284) -/
  | resR (b : Oct) (r : Reg8)
  /-- `RES b,(HL)` (R284) -/
  | resM (b : Oct)
  /-- `SET b,r` (R285) -/
  | setR (b : Oct) (r : Reg8)
  /-- `SET b,(HL)` (R285) -/
  | setM (b : Oct)
  /-- `JP nn` (R291) -/
  | jp (nn : Word)
  /-- `JP cc,nn` (R292) -/
  | jpCc (cc : Cond) (nn : Word)
  /-- `JR e` (R293) -/
  | jr (e : Byte)
  /-- `JR cc,e` (R294) -/
  | jrCc (cc : Cond) (e : Byte)
  /-- `JP HL` (R295) -/
  | jpHL
  /-- `CALL nn` (R296) -/
  | call (nn : Word)
  /-- `CALL cc,nn` (R297) -/
  | callCc (cc : Cond) (nn : Word)
  /-- `RET` (R298) -/
  | ret
  /-- `RET cc` (R299) -/
  | retCc (cc : Cond)
  /-- `RETI` (R300) -/
  | reti
  /-- `RST t`, target `8 * t` (R303) -/
  | rst (t : Oct)
  /-- `NOP` (R305) -/
  | nop
  /-- `DI` (R306) -/
  | di
  /-- `EI` (R307) -/
  | ei
  /-- `HALT` (R308) -/
  | halt
  /-- `STOP` and its ignored operand byte (R309) -/
  | stop (n : Byte)
  /-- the prefix byte 0xCB in opcode position (R198) -/
  | prefixCB
  /-- an opcode with no table entry (R155, R199) -/
  | illegal (op : Byte)
  deriving DecidableEq, Repr

/-- One constructor per row of spec/opcode_table.json (R153, R154), named after the row: `at` marks a memory operand, `HLi` and
`HLd` are `HL+` and `HL-`. Immediate operands are arguments; `STOP` keeps its ignored byte. The rows with
operands come first, then the table's order. -/
inductive Instr where
  | ld_BC_n16 (nn : Word)
  | ld_B_n8 (n : Byte)
  | ld_atN16_SP (nn : Word)
  | ld_C_n8 (n : Byte)
  | stop (n : Byte)
  | ld_DE_n16 (nn : Word)
  | ld_D_n8 (n : Byte)
  | jr_e8 (e : Byte)
  | ld_E_n8 (n : Byte)
  | jr_NZ_e8 (e : Byte)
  | ld_HL_n16 (nn : Word)
  | ld_H_n8 (n : Byte)
  | jr_Z_e8 (e : Byte)
  | ld_L_n8 (n : Byte)
  | jr_NC_e8 (e : Byte)
  | ld_SP_n16 (nn : Word)
  | ld_atHL_n8 (n : Byte)
  | jr_C_e8 (e : Byte)
  | ld_A_n8 (n : Byte)
  | jp_NZ_n16 (nn : Word)
  | jp_n16 (nn : Word)
  | call_NZ_n16 (nn : Word)
  | add_A_n8 (n : Byte)
  | jp_Z_n16 (nn : Word)
  | call_Z_n16 (nn : Word)
  | call_n16 (nn : Word)
  | adc_A_n8 (n : Byte)
  | jp_NC_n16 (nn : Word)
  | illegal (op : Byte)
  | call_NC_n16 (nn : Word)
  | sub_n8 (n : Byte)
  | jp_C_n16 (nn : Word)
  | call_C_n16 (nn : Word)
  | sbc_A_n8 (n : Byte)
  | ldh_atN8_A (n : Byte)
  | and_n8 (n : Byte)
  | add_SP_e8 (e : Byte)
  | ld_atN16_A (nn : Word)
  | xor_n8 (n : Byte)
  | ldh_A_atN8 (n : Byte)
  | or_n8 (n : Byte)
  | ld_HL_SPe8 (e : Byte)
  | ld_A_atN16 (nn : Word)
  | cp_n8 (n : Byte)
  | nop
  | ld_atBC_A
  | inc_BC
  | inc_B
  | dec_B
  | rlca
  | add_HL_BC
  | ld_A_atBC
  | dec_BC
  | inc_C
  | dec_C
  | rrca
  | ld_atDE_A
  | inc_DE
  | inc_D
  | dec_D
  | rla
  | add_HL_DE
  | ld_A_atDE
  | dec_DE
  | inc_E
  | dec_E
  | rra
  | ld_atHLi_A
  | inc_HL
  | inc_H
  | dec_H
  | daa
  | add_HL_HL
  | ld_A_atHLi
  | dec_HL
  | inc_L
  | dec_L
  | cpl
  | ld_atHLd_A
  | inc_SP
  | inc_atHL
  | dec_atHL
  | scf
  | add_HL_SP
  | ld_A_atHLd
  | dec_SP
  | inc_A
  | dec_A
  | ccf
  | ld_B_B
  | ld_B_C
  | ld_B_D
  | ld_B_E
  | ld_B_H
  | ld_B_L
  | ld_B_atHL
  | ld_B_A
  | ld_C_B
  | ld_C_C
  | ld_C_D
  | ld_C_E
  | ld_C_H
  | ld_C_L
  | ld_C_atHL
  | ld_C_A
  | ld_D_B
  | ld_D_C
  | ld_D_D
  | ld_D_E
  | ld_D_H
  | ld_D_L
  | ld_D_atHL
  | ld_D_A
  | ld_E_B
  | ld_E_C
  | ld_E_D
  | ld_E_E
  | ld_E_H
  | ld_E_L
  | ld_E_atHL
  | ld_E_A
  | ld_H_B
  | ld_H_C
  | ld_H_D
  | ld_H_E
  | ld_H_H
  | ld_H_L
  | ld_H_atHL
  | ld_H_A
  | ld_L_B
  | ld_L_C
  | ld_L_D
  | ld_L_E
  | ld_L_H
  | ld_L_L
  | ld_L_atHL
  | ld_L_A
  | ld_atHL_B
  | ld_atHL_C
  | ld_atHL_D
  | ld_atHL_E
  | ld_atHL_H
  | ld_atHL_L
  | halt
  | ld_atHL_A
  | ld_A_B
  | ld_A_C
  | ld_A_D
  | ld_A_E
  | ld_A_H
  | ld_A_L
  | ld_A_atHL
  | ld_A_A
  | add_A_B
  | add_A_C
  | add_A_D
  | add_A_E
  | add_A_H
  | add_A_L
  | add_A_atHL
  | add_A_A
  | adc_A_B
  | adc_A_C
  | adc_A_D
  | adc_A_E
  | adc_A_H
  | adc_A_L
  | adc_A_atHL
  | adc_A_A
  | sub_B
  | sub_C
  | sub_D
  | sub_E
  | sub_H
  | sub_L
  | sub_atHL
  | sub_A
  | sbc_A_B
  | sbc_A_C
  | sbc_A_D
  | sbc_A_E
  | sbc_A_H
  | sbc_A_L
  | sbc_A_atHL
  | sbc_A_A
  | and_B
  | and_C
  | and_D
  | and_E
  | and_H
  | and_L
  | and_atHL
  | and_A
  | xor_B
  | xor_C
  | xor_D
  | xor_E
  | xor_H
  | xor_L
  | xor_atHL
  | xor_A
  | or_B
  | or_C
  | or_D
  | or_E
  | or_H
  | or_L
  | or_atHL
  | or_A
  | cp_B
  | cp_C
  | cp_D
  | cp_E
  | cp_H
  | cp_L
  | cp_atHL
  | cp_A
  | ret_NZ
  | pop_BC
  | push_BC
  | rst_00
  | ret_Z
  | ret
  | prefixCB
  | rst_08
  | ret_NC
  | pop_DE
  | push_DE
  | rst_10
  | ret_C
  | reti
  | rst_18
  | pop_HL
  | ldh_atC_A
  | push_HL
  | rst_20
  | jp_HL
  | rst_28
  | pop_AF
  | ldh_A_atC
  | di
  | push_AF
  | rst_30
  | ld_SP_HL
  | ei
  | rst_38
  | rlc_B
  | rlc_C
  | rlc_D
  | rlc_E
  | rlc_H
  | rlc_L
  | rlc_atHL
  | rlc_A
  | rrc_B
  | rrc_C
  | rrc_D
  | rrc_E
  | rrc_H
  | rrc_L
  | rrc_atHL
  | rrc_A
  | rl_B
  | rl_C
  | rl_D
  | rl_E
  | rl_H
  | rl_L
  | rl_atHL
  | rl_A
  | rr_B
  | rr_C
  | rr_D
  | rr_E
  | rr_H
  | rr_L
  | rr_atHL
  | rr_A
  | sla_B
  | sla_C
  | sla_D
  | sla_E
  | sla_H
  | sla_L
  | sla_atHL
  | sla_A
  | sra_B
  | sra_C
  | sra_D
  | sra_E
  | sra_H
  | sra_L
  | sra_atHL
  | sra_A
  | swap_B
  | swap_C
  | swap_D
  | swap_E
  | swap_H
  | swap_L
  | swap_atHL
  | swap_A
  | srl_B
  | srl_C
  | srl_D
  | srl_E
  | srl_H
  | srl_L
  | srl_atHL
  | srl_A
  | bit_0_B
  | bit_0_C
  | bit_0_D
  | bit_0_E
  | bit_0_H
  | bit_0_L
  | bit_0_atHL
  | bit_0_A
  | bit_1_B
  | bit_1_C
  | bit_1_D
  | bit_1_E
  | bit_1_H
  | bit_1_L
  | bit_1_atHL
  | bit_1_A
  | bit_2_B
  | bit_2_C
  | bit_2_D
  | bit_2_E
  | bit_2_H
  | bit_2_L
  | bit_2_atHL
  | bit_2_A
  | bit_3_B
  | bit_3_C
  | bit_3_D
  | bit_3_E
  | bit_3_H
  | bit_3_L
  | bit_3_atHL
  | bit_3_A
  | bit_4_B
  | bit_4_C
  | bit_4_D
  | bit_4_E
  | bit_4_H
  | bit_4_L
  | bit_4_atHL
  | bit_4_A
  | bit_5_B
  | bit_5_C
  | bit_5_D
  | bit_5_E
  | bit_5_H
  | bit_5_L
  | bit_5_atHL
  | bit_5_A
  | bit_6_B
  | bit_6_C
  | bit_6_D
  | bit_6_E
  | bit_6_H
  | bit_6_L
  | bit_6_atHL
  | bit_6_A
  | bit_7_B
  | bit_7_C
  | bit_7_D
  | bit_7_E
  | bit_7_H
  | bit_7_L
  | bit_7_atHL
  | bit_7_A
  | res_0_B
  | res_0_C
  | res_0_D
  | res_0_E
  | res_0_H
  | res_0_L
  | res_0_atHL
  | res_0_A
  | res_1_B
  | res_1_C
  | res_1_D
  | res_1_E
  | res_1_H
  | res_1_L
  | res_1_atHL
  | res_1_A
  | res_2_B
  | res_2_C
  | res_2_D
  | res_2_E
  | res_2_H
  | res_2_L
  | res_2_atHL
  | res_2_A
  | res_3_B
  | res_3_C
  | res_3_D
  | res_3_E
  | res_3_H
  | res_3_L
  | res_3_atHL
  | res_3_A
  | res_4_B
  | res_4_C
  | res_4_D
  | res_4_E
  | res_4_H
  | res_4_L
  | res_4_atHL
  | res_4_A
  | res_5_B
  | res_5_C
  | res_5_D
  | res_5_E
  | res_5_H
  | res_5_L
  | res_5_atHL
  | res_5_A
  | res_6_B
  | res_6_C
  | res_6_D
  | res_6_E
  | res_6_H
  | res_6_L
  | res_6_atHL
  | res_6_A
  | res_7_B
  | res_7_C
  | res_7_D
  | res_7_E
  | res_7_H
  | res_7_L
  | res_7_atHL
  | res_7_A
  | set_0_B
  | set_0_C
  | set_0_D
  | set_0_E
  | set_0_H
  | set_0_L
  | set_0_atHL
  | set_0_A
  | set_1_B
  | set_1_C
  | set_1_D
  | set_1_E
  | set_1_H
  | set_1_L
  | set_1_atHL
  | set_1_A
  | set_2_B
  | set_2_C
  | set_2_D
  | set_2_E
  | set_2_H
  | set_2_L
  | set_2_atHL
  | set_2_A
  | set_3_B
  | set_3_C
  | set_3_D
  | set_3_E
  | set_3_H
  | set_3_L
  | set_3_atHL
  | set_3_A
  | set_4_B
  | set_4_C
  | set_4_D
  | set_4_E
  | set_4_H
  | set_4_L
  | set_4_atHL
  | set_4_A
  | set_5_B
  | set_5_C
  | set_5_D
  | set_5_E
  | set_5_H
  | set_5_L
  | set_5_atHL
  | set_5_A
  | set_6_B
  | set_6_C
  | set_6_D
  | set_6_E
  | set_6_H
  | set_6_L
  | set_6_atHL
  | set_6_A
  | set_7_B
  | set_7_C
  | set_7_D
  | set_7_E
  | set_7_H
  | set_7_L
  | set_7_atHL
  | set_7_A
  deriving DecidableEq, Repr

namespace Instr

/-- The generic form of a row and its field values (R159 `form`, `fields`). -/
def form : Instr → Form
  | .nop => .nop
  | .ld_BC_n16 nn => .ldPairNN .bc nn
  | .ld_atBC_A => .ldBCA
  | .inc_BC => .incPair .bc
  | .inc_B => .incR .b
  | .dec_B => .decR .b
  | .ld_B_n8 n => .ldRN .b n
  | .rlca => .rlca
  | .ld_atN16_SP nn => .ldNNSP nn
  | .add_HL_BC => .addHL .bc
  | .ld_A_atBC => .ldABC
  | .dec_BC => .decPair .bc
  | .inc_C => .incR .c
  | .dec_C => .decR .c
  | .ld_C_n8 n => .ldRN .c n
  | .rrca => .rrca
  | .stop n => .stop n
  | .ld_DE_n16 nn => .ldPairNN .de nn
  | .ld_atDE_A => .ldDEA
  | .inc_DE => .incPair .de
  | .inc_D => .incR .d
  | .dec_D => .decR .d
  | .ld_D_n8 n => .ldRN .d n
  | .rla => .rla
  | .jr_e8 e => .jr e
  | .add_HL_DE => .addHL .de
  | .ld_A_atDE => .ldADE
  | .dec_DE => .decPair .de
  | .inc_E => .incR .e
  | .dec_E => .decR .e
  | .ld_E_n8 n => .ldRN .e n
  | .rra => .rra
  | .jr_NZ_e8 e => .jrCc .nz e
  | .ld_HL_n16 nn => .ldPairNN .hl nn
  | .ld_atHLi_A => .ldHLiA
  | .inc_HL => .incPair .hl
  | .inc_H => .incR .h
  | .dec_H => .decR .h
  | .ld_H_n8 n => .ldRN .h n
  | .daa => .daa
  | .jr_Z_e8 e => .jrCc .z e
  | .add_HL_HL => .addHL .hl
  | .ld_A_atHLi => .ldAHLi
  | .dec_HL => .decPair .hl
  | .inc_L => .incR .l
  | .dec_L => .decR .l
  | .ld_L_n8 n => .ldRN .l n
  | .cpl => .cpl
  | .jr_NC_e8 e => .jrCc .nc e
  | .ld_SP_n16 nn => .ldPairNN .sp nn
  | .ld_atHLd_A => .ldHLdA
  | .inc_SP => .incPair .sp
  | .inc_atHL => .incM
  | .dec_atHL => .decM
  | .ld_atHL_n8 n => .ldMN n
  | .scf => .scf
  | .jr_C_e8 e => .jrCc .c e
  | .add_HL_SP => .addHL .sp
  | .ld_A_atHLd => .ldAHLd
  | .dec_SP => .decPair .sp
  | .inc_A => .incR .a
  | .dec_A => .decR .a
  | .ld_A_n8 n => .ldRN .a n
  | .ccf => .ccf
  | .ld_B_B => .ldRR .b .b
  | .ld_B_C => .ldRR .b .c
  | .ld_B_D => .ldRR .b .d
  | .ld_B_E => .ldRR .b .e
  | .ld_B_H => .ldRR .b .h
  | .ld_B_L => .ldRR .b .l
  | .ld_B_atHL => .ldRM .b
  | .ld_B_A => .ldRR .b .a
  | .ld_C_B => .ldRR .c .b
  | .ld_C_C => .ldRR .c .c
  | .ld_C_D => .ldRR .c .d
  | .ld_C_E => .ldRR .c .e
  | .ld_C_H => .ldRR .c .h
  | .ld_C_L => .ldRR .c .l
  | .ld_C_atHL => .ldRM .c
  | .ld_C_A => .ldRR .c .a
  | .ld_D_B => .ldRR .d .b
  | .ld_D_C => .ldRR .d .c
  | .ld_D_D => .ldRR .d .d
  | .ld_D_E => .ldRR .d .e
  | .ld_D_H => .ldRR .d .h
  | .ld_D_L => .ldRR .d .l
  | .ld_D_atHL => .ldRM .d
  | .ld_D_A => .ldRR .d .a
  | .ld_E_B => .ldRR .e .b
  | .ld_E_C => .ldRR .e .c
  | .ld_E_D => .ldRR .e .d
  | .ld_E_E => .ldRR .e .e
  | .ld_E_H => .ldRR .e .h
  | .ld_E_L => .ldRR .e .l
  | .ld_E_atHL => .ldRM .e
  | .ld_E_A => .ldRR .e .a
  | .ld_H_B => .ldRR .h .b
  | .ld_H_C => .ldRR .h .c
  | .ld_H_D => .ldRR .h .d
  | .ld_H_E => .ldRR .h .e
  | .ld_H_H => .ldRR .h .h
  | .ld_H_L => .ldRR .h .l
  | .ld_H_atHL => .ldRM .h
  | .ld_H_A => .ldRR .h .a
  | .ld_L_B => .ldRR .l .b
  | .ld_L_C => .ldRR .l .c
  | .ld_L_D => .ldRR .l .d
  | .ld_L_E => .ldRR .l .e
  | .ld_L_H => .ldRR .l .h
  | .ld_L_L => .ldRR .l .l
  | .ld_L_atHL => .ldRM .l
  | .ld_L_A => .ldRR .l .a
  | .ld_atHL_B => .ldMR .b
  | .ld_atHL_C => .ldMR .c
  | .ld_atHL_D => .ldMR .d
  | .ld_atHL_E => .ldMR .e
  | .ld_atHL_H => .ldMR .h
  | .ld_atHL_L => .ldMR .l
  | .halt => .halt
  | .ld_atHL_A => .ldMR .a
  | .ld_A_B => .ldRR .a .b
  | .ld_A_C => .ldRR .a .c
  | .ld_A_D => .ldRR .a .d
  | .ld_A_E => .ldRR .a .e
  | .ld_A_H => .ldRR .a .h
  | .ld_A_L => .ldRR .a .l
  | .ld_A_atHL => .ldRM .a
  | .ld_A_A => .ldRR .a .a
  | .add_A_B => .aluR .add .b
  | .add_A_C => .aluR .add .c
  | .add_A_D => .aluR .add .d
  | .add_A_E => .aluR .add .e
  | .add_A_H => .aluR .add .h
  | .add_A_L => .aluR .add .l
  | .add_A_atHL => .aluM .add
  | .add_A_A => .aluR .add .a
  | .adc_A_B => .aluR .adc .b
  | .adc_A_C => .aluR .adc .c
  | .adc_A_D => .aluR .adc .d
  | .adc_A_E => .aluR .adc .e
  | .adc_A_H => .aluR .adc .h
  | .adc_A_L => .aluR .adc .l
  | .adc_A_atHL => .aluM .adc
  | .adc_A_A => .aluR .adc .a
  | .sub_B => .aluR .sub .b
  | .sub_C => .aluR .sub .c
  | .sub_D => .aluR .sub .d
  | .sub_E => .aluR .sub .e
  | .sub_H => .aluR .sub .h
  | .sub_L => .aluR .sub .l
  | .sub_atHL => .aluM .sub
  | .sub_A => .aluR .sub .a
  | .sbc_A_B => .aluR .sbc .b
  | .sbc_A_C => .aluR .sbc .c
  | .sbc_A_D => .aluR .sbc .d
  | .sbc_A_E => .aluR .sbc .e
  | .sbc_A_H => .aluR .sbc .h
  | .sbc_A_L => .aluR .sbc .l
  | .sbc_A_atHL => .aluM .sbc
  | .sbc_A_A => .aluR .sbc .a
  | .and_B => .aluR .and .b
  | .and_C => .aluR .and .c
  | .and_D => .aluR .and .d
  | .and_E => .aluR .and .e
  | .and_H => .aluR .and .h
  | .and_L => .aluR .and .l
  | .and_atHL => .aluM .and
  | .and_A => .aluR .and .a
  | .xor_B => .aluR .xor .b
  | .xor_C => .aluR .xor .c
  | .xor_D => .aluR .xor .d
  | .xor_E => .aluR .xor .e
  | .xor_H => .aluR .xor .h
  | .xor_L => .aluR .xor .l
  | .xor_atHL => .aluM .xor
  | .xor_A => .aluR .xor .a
  | .or_B => .aluR .or .b
  | .or_C => .aluR .or .c
  | .or_D => .aluR .or .d
  | .or_E => .aluR .or .e
  | .or_H => .aluR .or .h
  | .or_L => .aluR .or .l
  | .or_atHL => .aluM .or
  | .or_A => .aluR .or .a
  | .cp_B => .aluR .cp .b
  | .cp_C => .aluR .cp .c
  | .cp_D => .aluR .cp .d
  | .cp_E => .aluR .cp .e
  | .cp_H => .aluR .cp .h
  | .cp_L => .aluR .cp .l
  | .cp_atHL => .aluM .cp
  | .cp_A => .aluR .cp .a
  | .ret_NZ => .retCc .nz
  | .pop_BC => .pop .bc
  | .jp_NZ_n16 nn => .jpCc .nz nn
  | .jp_n16 nn => .jp nn
  | .call_NZ_n16 nn => .callCc .nz nn
  | .push_BC => .push .bc
  | .add_A_n8 n => .aluN .add n
  | .rst_00 => .rst .o0
  | .ret_Z => .retCc .z
  | .ret => .ret
  | .jp_Z_n16 nn => .jpCc .z nn
  | .prefixCB => .prefixCB
  | .call_Z_n16 nn => .callCc .z nn
  | .call_n16 nn => .call nn
  | .adc_A_n8 n => .aluN .adc n
  | .rst_08 => .rst .o1
  | .ret_NC => .retCc .nc
  | .pop_DE => .pop .de
  | .jp_NC_n16 nn => .jpCc .nc nn
  | .illegal op => .illegal op
  | .call_NC_n16 nn => .callCc .nc nn
  | .push_DE => .push .de
  | .sub_n8 n => .aluN .sub n
  | .rst_10 => .rst .o2
  | .ret_C => .retCc .c
  | .reti => .reti
  | .jp_C_n16 nn => .jpCc .c nn
  | .call_C_n16 nn => .callCc .c nn
  | .sbc_A_n8 n => .aluN .sbc n
  | .rst_18 => .rst .o3
  | .ldh_atN8_A n => .ldhNA n
  | .pop_HL => .pop .hl
  | .ldh_atC_A => .ldhCA
  | .push_HL => .push .hl
  | .and_n8 n => .aluN .and n
  | .rst_20 => .rst .o4
  | .add_SP_e8 e => .addSPe e
  | .jp_HL => .jpHL
  | .ld_atN16_A nn => .ldNNA nn
  | .xor_n8 n => .aluN .xor n
  | .rst_28 => .rst .o5
  | .ldh_A_atN8 n => .ldhAN n
  | .pop_AF => .pop .af
  | .ldh_A_atC => .ldhAC
  | .di => .di
  | .push_AF => .push .af
  | .or_n8 n => .aluN .or n
  | .rst_30 => .rst .o6
  | .ld_HL_SPe8 e => .ldHLSPe e
  | .ld_SP_HL => .ldSPHL
  | .ld_A_atN16 nn => .ldANN nn
  | .ei => .ei
  | .cp_n8 n => .aluN .cp n
  | .rst_38 => .rst .o7
  | .rlc_B => .rotR .rlc .b
  | .rlc_C => .rotR .rlc .c
  | .rlc_D => .rotR .rlc .d
  | .rlc_E => .rotR .rlc .e
  | .rlc_H => .rotR .rlc .h
  | .rlc_L => .rotR .rlc .l
  | .rlc_atHL => .rotM .rlc
  | .rlc_A => .rotR .rlc .a
  | .rrc_B => .rotR .rrc .b
  | .rrc_C => .rotR .rrc .c
  | .rrc_D => .rotR .rrc .d
  | .rrc_E => .rotR .rrc .e
  | .rrc_H => .rotR .rrc .h
  | .rrc_L => .rotR .rrc .l
  | .rrc_atHL => .rotM .rrc
  | .rrc_A => .rotR .rrc .a
  | .rl_B => .rotR .rl .b
  | .rl_C => .rotR .rl .c
  | .rl_D => .rotR .rl .d
  | .rl_E => .rotR .rl .e
  | .rl_H => .rotR .rl .h
  | .rl_L => .rotR .rl .l
  | .rl_atHL => .rotM .rl
  | .rl_A => .rotR .rl .a
  | .rr_B => .rotR .rr .b
  | .rr_C => .rotR .rr .c
  | .rr_D => .rotR .rr .d
  | .rr_E => .rotR .rr .e
  | .rr_H => .rotR .rr .h
  | .rr_L => .rotR .rr .l
  | .rr_atHL => .rotM .rr
  | .rr_A => .rotR .rr .a
  | .sla_B => .rotR .sla .b
  | .sla_C => .rotR .sla .c
  | .sla_D => .rotR .sla .d
  | .sla_E => .rotR .sla .e
  | .sla_H => .rotR .sla .h
  | .sla_L => .rotR .sla .l
  | .sla_atHL => .rotM .sla
  | .sla_A => .rotR .sla .a
  | .sra_B => .rotR .sra .b
  | .sra_C => .rotR .sra .c
  | .sra_D => .rotR .sra .d
  | .sra_E => .rotR .sra .e
  | .sra_H => .rotR .sra .h
  | .sra_L => .rotR .sra .l
  | .sra_atHL => .rotM .sra
  | .sra_A => .rotR .sra .a
  | .swap_B => .rotR .swap .b
  | .swap_C => .rotR .swap .c
  | .swap_D => .rotR .swap .d
  | .swap_E => .rotR .swap .e
  | .swap_H => .rotR .swap .h
  | .swap_L => .rotR .swap .l
  | .swap_atHL => .rotM .swap
  | .swap_A => .rotR .swap .a
  | .srl_B => .rotR .srl .b
  | .srl_C => .rotR .srl .c
  | .srl_D => .rotR .srl .d
  | .srl_E => .rotR .srl .e
  | .srl_H => .rotR .srl .h
  | .srl_L => .rotR .srl .l
  | .srl_atHL => .rotM .srl
  | .srl_A => .rotR .srl .a
  | .bit_0_B => .bitR .o0 .b
  | .bit_0_C => .bitR .o0 .c
  | .bit_0_D => .bitR .o0 .d
  | .bit_0_E => .bitR .o0 .e
  | .bit_0_H => .bitR .o0 .h
  | .bit_0_L => .bitR .o0 .l
  | .bit_0_atHL => .bitM .o0
  | .bit_0_A => .bitR .o0 .a
  | .bit_1_B => .bitR .o1 .b
  | .bit_1_C => .bitR .o1 .c
  | .bit_1_D => .bitR .o1 .d
  | .bit_1_E => .bitR .o1 .e
  | .bit_1_H => .bitR .o1 .h
  | .bit_1_L => .bitR .o1 .l
  | .bit_1_atHL => .bitM .o1
  | .bit_1_A => .bitR .o1 .a
  | .bit_2_B => .bitR .o2 .b
  | .bit_2_C => .bitR .o2 .c
  | .bit_2_D => .bitR .o2 .d
  | .bit_2_E => .bitR .o2 .e
  | .bit_2_H => .bitR .o2 .h
  | .bit_2_L => .bitR .o2 .l
  | .bit_2_atHL => .bitM .o2
  | .bit_2_A => .bitR .o2 .a
  | .bit_3_B => .bitR .o3 .b
  | .bit_3_C => .bitR .o3 .c
  | .bit_3_D => .bitR .o3 .d
  | .bit_3_E => .bitR .o3 .e
  | .bit_3_H => .bitR .o3 .h
  | .bit_3_L => .bitR .o3 .l
  | .bit_3_atHL => .bitM .o3
  | .bit_3_A => .bitR .o3 .a
  | .bit_4_B => .bitR .o4 .b
  | .bit_4_C => .bitR .o4 .c
  | .bit_4_D => .bitR .o4 .d
  | .bit_4_E => .bitR .o4 .e
  | .bit_4_H => .bitR .o4 .h
  | .bit_4_L => .bitR .o4 .l
  | .bit_4_atHL => .bitM .o4
  | .bit_4_A => .bitR .o4 .a
  | .bit_5_B => .bitR .o5 .b
  | .bit_5_C => .bitR .o5 .c
  | .bit_5_D => .bitR .o5 .d
  | .bit_5_E => .bitR .o5 .e
  | .bit_5_H => .bitR .o5 .h
  | .bit_5_L => .bitR .o5 .l
  | .bit_5_atHL => .bitM .o5
  | .bit_5_A => .bitR .o5 .a
  | .bit_6_B => .bitR .o6 .b
  | .bit_6_C => .bitR .o6 .c
  | .bit_6_D => .bitR .o6 .d
  | .bit_6_E => .bitR .o6 .e
  | .bit_6_H => .bitR .o6 .h
  | .bit_6_L => .bitR .o6 .l
  | .bit_6_atHL => .bitM .o6
  | .bit_6_A => .bitR .o6 .a
  | .bit_7_B => .bitR .o7 .b
  | .bit_7_C => .bitR .o7 .c
  | .bit_7_D => .bitR .o7 .d
  | .bit_7_E => .bitR .o7 .e
  | .bit_7_H => .bitR .o7 .h
  | .bit_7_L => .bitR .o7 .l
  | .bit_7_atHL => .bitM .o7
  | .bit_7_A => .bitR .o7 .a
  | .res_0_B => .resR .o0 .b
  | .res_0_C => .resR .o0 .c
  | .res_0_D => .resR .o0 .d
  | .res_0_E => .resR .o0 .e
  | .res_0_H => .resR .o0 .h
  | .res_0_L => .resR .o0 .l
  | .res_0_atHL => .resM .o0
  | .res_0_A => .resR .o0 .a
  | .res_1_B => .resR .o1 .b
  | .res_1_C => .resR .o1 .c
  | .res_1_D => .resR .o1 .d
  | .res_1_E => .resR .o1 .e
  | .res_1_H => .resR .o1 .h
  | .res_1_L => .resR .o1 .l
  | .res_1_atHL => .resM .o1
  | .res_1_A => .resR .o1 .a
  | .res_2_B => .resR .o2 .b
  | .res_2_C => .resR .o2 .c
  | .res_2_D => .resR .o2 .d
  | .res_2_E => .resR .o2 .e
  | .res_2_H => .resR .o2 .h
  | .res_2_L => .resR .o2 .l
  | .res_2_atHL => .resM .o2
  | .res_2_A => .resR .o2 .a
  | .res_3_B => .resR .o3 .b
  | .res_3_C => .resR .o3 .c
  | .res_3_D => .resR .o3 .d
  | .res_3_E => .resR .o3 .e
  | .res_3_H => .resR .o3 .h
  | .res_3_L => .resR .o3 .l
  | .res_3_atHL => .resM .o3
  | .res_3_A => .resR .o3 .a
  | .res_4_B => .resR .o4 .b
  | .res_4_C => .resR .o4 .c
  | .res_4_D => .resR .o4 .d
  | .res_4_E => .resR .o4 .e
  | .res_4_H => .resR .o4 .h
  | .res_4_L => .resR .o4 .l
  | .res_4_atHL => .resM .o4
  | .res_4_A => .resR .o4 .a
  | .res_5_B => .resR .o5 .b
  | .res_5_C => .resR .o5 .c
  | .res_5_D => .resR .o5 .d
  | .res_5_E => .resR .o5 .e
  | .res_5_H => .resR .o5 .h
  | .res_5_L => .resR .o5 .l
  | .res_5_atHL => .resM .o5
  | .res_5_A => .resR .o5 .a
  | .res_6_B => .resR .o6 .b
  | .res_6_C => .resR .o6 .c
  | .res_6_D => .resR .o6 .d
  | .res_6_E => .resR .o6 .e
  | .res_6_H => .resR .o6 .h
  | .res_6_L => .resR .o6 .l
  | .res_6_atHL => .resM .o6
  | .res_6_A => .resR .o6 .a
  | .res_7_B => .resR .o7 .b
  | .res_7_C => .resR .o7 .c
  | .res_7_D => .resR .o7 .d
  | .res_7_E => .resR .o7 .e
  | .res_7_H => .resR .o7 .h
  | .res_7_L => .resR .o7 .l
  | .res_7_atHL => .resM .o7
  | .res_7_A => .resR .o7 .a
  | .set_0_B => .setR .o0 .b
  | .set_0_C => .setR .o0 .c
  | .set_0_D => .setR .o0 .d
  | .set_0_E => .setR .o0 .e
  | .set_0_H => .setR .o0 .h
  | .set_0_L => .setR .o0 .l
  | .set_0_atHL => .setM .o0
  | .set_0_A => .setR .o0 .a
  | .set_1_B => .setR .o1 .b
  | .set_1_C => .setR .o1 .c
  | .set_1_D => .setR .o1 .d
  | .set_1_E => .setR .o1 .e
  | .set_1_H => .setR .o1 .h
  | .set_1_L => .setR .o1 .l
  | .set_1_atHL => .setM .o1
  | .set_1_A => .setR .o1 .a
  | .set_2_B => .setR .o2 .b
  | .set_2_C => .setR .o2 .c
  | .set_2_D => .setR .o2 .d
  | .set_2_E => .setR .o2 .e
  | .set_2_H => .setR .o2 .h
  | .set_2_L => .setR .o2 .l
  | .set_2_atHL => .setM .o2
  | .set_2_A => .setR .o2 .a
  | .set_3_B => .setR .o3 .b
  | .set_3_C => .setR .o3 .c
  | .set_3_D => .setR .o3 .d
  | .set_3_E => .setR .o3 .e
  | .set_3_H => .setR .o3 .h
  | .set_3_L => .setR .o3 .l
  | .set_3_atHL => .setM .o3
  | .set_3_A => .setR .o3 .a
  | .set_4_B => .setR .o4 .b
  | .set_4_C => .setR .o4 .c
  | .set_4_D => .setR .o4 .d
  | .set_4_E => .setR .o4 .e
  | .set_4_H => .setR .o4 .h
  | .set_4_L => .setR .o4 .l
  | .set_4_atHL => .setM .o4
  | .set_4_A => .setR .o4 .a
  | .set_5_B => .setR .o5 .b
  | .set_5_C => .setR .o5 .c
  | .set_5_D => .setR .o5 .d
  | .set_5_E => .setR .o5 .e
  | .set_5_H => .setR .o5 .h
  | .set_5_L => .setR .o5 .l
  | .set_5_atHL => .setM .o5
  | .set_5_A => .setR .o5 .a
  | .set_6_B => .setR .o6 .b
  | .set_6_C => .setR .o6 .c
  | .set_6_D => .setR .o6 .d
  | .set_6_E => .setR .o6 .e
  | .set_6_H => .setR .o6 .h
  | .set_6_L => .setR .o6 .l
  | .set_6_atHL => .setM .o6
  | .set_6_A => .setR .o6 .a
  | .set_7_B => .setR .o7 .b
  | .set_7_C => .setR .o7 .c
  | .set_7_D => .setR .o7 .d
  | .set_7_E => .setR .o7 .e
  | .set_7_H => .setR .o7 .h
  | .set_7_L => .setR .o7 .l
  | .set_7_atHL => .setM .o7
  | .set_7_A => .setR .o7 .a

end Instr

namespace Form

/-- The row of the table that a form with given field values is. -/
def instr : Form → Instr
  | .ldRR .b .b => .ld_B_B
  | .ldRR .b .c => .ld_B_C
  | .ldRR .b .d => .ld_B_D
  | .ldRR .b .e => .ld_B_E
  | .ldRR .b .h => .ld_B_H
  | .ldRR .b .l => .ld_B_L
  | .ldRR .b .a => .ld_B_A
  | .ldRR .c .b => .ld_C_B
  | .ldRR .c .c => .ld_C_C
  | .ldRR .c .d => .ld_C_D
  | .ldRR .c .e => .ld_C_E
  | .ldRR .c .h => .ld_C_H
  | .ldRR .c .l => .ld_C_L
  | .ldRR .c .a => .ld_C_A
  | .ldRR .d .b => .ld_D_B
  | .ldRR .d .c => .ld_D_C
  | .ldRR .d .d => .ld_D_D
  | .ldRR .d .e => .ld_D_E
  | .ldRR .d .h => .ld_D_H
  | .ldRR .d .l => .ld_D_L
  | .ldRR .d .a => .ld_D_A
  | .ldRR .e .b => .ld_E_B
  | .ldRR .e .c => .ld_E_C
  | .ldRR .e .d => .ld_E_D
  | .ldRR .e .e => .ld_E_E
  | .ldRR .e .h => .ld_E_H
  | .ldRR .e .l => .ld_E_L
  | .ldRR .e .a => .ld_E_A
  | .ldRR .h .b => .ld_H_B
  | .ldRR .h .c => .ld_H_C
  | .ldRR .h .d => .ld_H_D
  | .ldRR .h .e => .ld_H_E
  | .ldRR .h .h => .ld_H_H
  | .ldRR .h .l => .ld_H_L
  | .ldRR .h .a => .ld_H_A
  | .ldRR .l .b => .ld_L_B
  | .ldRR .l .c => .ld_L_C
  | .ldRR .l .d => .ld_L_D
  | .ldRR .l .e => .ld_L_E
  | .ldRR .l .h => .ld_L_H
  | .ldRR .l .l => .ld_L_L
  | .ldRR .l .a => .ld_L_A
  | .ldRR .a .b => .ld_A_B
  | .ldRR .a .c => .ld_A_C
  | .ldRR .a .d => .ld_A_D
  | .ldRR .a .e => .ld_A_E
  | .ldRR .a .h => .ld_A_H
  | .ldRR .a .l => .ld_A_L
  | .ldRR .a .a => .ld_A_A
  | .ldRN .b n => .ld_B_n8 n
  | .ldRN .c n => .ld_C_n8 n
  | .ldRN .d n => .ld_D_n8 n
  | .ldRN .e n => .ld_E_n8 n
  | .ldRN .h n => .ld_H_n8 n
  | .ldRN .l n => .ld_L_n8 n
  | .ldRN .a n => .ld_A_n8 n
  | .ldRM .b => .ld_B_atHL
  | .ldRM .c => .ld_C_atHL
  | .ldRM .d => .ld_D_atHL
  | .ldRM .e => .ld_E_atHL
  | .ldRM .h => .ld_H_atHL
  | .ldRM .l => .ld_L_atHL
  | .ldRM .a => .ld_A_atHL
  | .ldMR .b => .ld_atHL_B
  | .ldMR .c => .ld_atHL_C
  | .ldMR .d => .ld_atHL_D
  | .ldMR .e => .ld_atHL_E
  | .ldMR .h => .ld_atHL_H
  | .ldMR .l => .ld_atHL_L
  | .ldMR .a => .ld_atHL_A
  | .ldMN n => .ld_atHL_n8 n
  | .ldABC => .ld_A_atBC
  | .ldADE => .ld_A_atDE
  | .ldBCA => .ld_atBC_A
  | .ldDEA => .ld_atDE_A
  | .ldANN nn => .ld_A_atN16 nn
  | .ldNNA nn => .ld_atN16_A nn
  | .ldhAC => .ldh_A_atC
  | .ldhCA => .ldh_atC_A
  | .ldhAN n => .ldh_A_atN8 n
  | .ldhNA n => .ldh_atN8_A n
  | .ldAHLd => .ld_A_atHLd
  | .ldHLdA => .ld_atHLd_A
  | .ldAHLi => .ld_A_atHLi
  | .ldHLiA => .ld_atHLi_A
  | .ldPairNN .bc nn => .ld_BC_n16 nn
  | .ldPairNN .de nn => .ld_DE_n16 nn
  | .ldPairNN .hl nn => .ld_HL_n16 nn
  | .ldPairNN .sp nn => .ld_SP_n16 nn
  | .ldNNSP nn => .ld_atN16_SP nn
  | .ldSPHL => .ld_SP_HL
  | .push .bc => .push_BC
  | .push .de => .push_DE
  | .push .hl => .push_HL
  | .push .af => .push_AF
  | .pop .bc => .pop_BC
  | .pop .de => .pop_DE
  | .pop .hl => .pop_HL
  | .pop .af => .pop_AF
  | .ldHLSPe e => .ld_HL_SPe8 e
  | .aluR .add .b => .add_A_B
  | .aluR .add .c => .add_A_C
  | .aluR .add .d => .add_A_D
  | .aluR .add .e => .add_A_E
  | .aluR .add .h => .add_A_H
  | .aluR .add .l => .add_A_L
  | .aluR .add .a => .add_A_A
  | .aluR .adc .b => .adc_A_B
  | .aluR .adc .c => .adc_A_C
  | .aluR .adc .d => .adc_A_D
  | .aluR .adc .e => .adc_A_E
  | .aluR .adc .h => .adc_A_H
  | .aluR .adc .l => .adc_A_L
  | .aluR .adc .a => .adc_A_A
  | .aluR .sub .b => .sub_B
  | .aluR .sub .c => .sub_C
  | .aluR .sub .d => .sub_D
  | .aluR .sub .e => .sub_E
  | .aluR .sub .h => .sub_H
  | .aluR .sub .l => .sub_L
  | .aluR .sub .a => .sub_A
  | .aluR .sbc .b => .sbc_A_B
  | .aluR .sbc .c => .sbc_A_C
  | .aluR .sbc .d => .sbc_A_D
  | .aluR .sbc .e => .sbc_A_E
  | .aluR .sbc .h => .sbc_A_H
  | .aluR .sbc .l => .sbc_A_L
  | .aluR .sbc .a => .sbc_A_A
  | .aluR .and .b => .and_B
  | .aluR .and .c => .and_C
  | .aluR .and .d => .and_D
  | .aluR .and .e => .and_E
  | .aluR .and .h => .and_H
  | .aluR .and .l => .and_L
  | .aluR .and .a => .and_A
  | .aluR .xor .b => .xor_B
  | .aluR .xor .c => .xor_C
  | .aluR .xor .d => .xor_D
  | .aluR .xor .e => .xor_E
  | .aluR .xor .h => .xor_H
  | .aluR .xor .l => .xor_L
  | .aluR .xor .a => .xor_A
  | .aluR .or .b => .or_B
  | .aluR .or .c => .or_C
  | .aluR .or .d => .or_D
  | .aluR .or .e => .or_E
  | .aluR .or .h => .or_H
  | .aluR .or .l => .or_L
  | .aluR .or .a => .or_A
  | .aluR .cp .b => .cp_B
  | .aluR .cp .c => .cp_C
  | .aluR .cp .d => .cp_D
  | .aluR .cp .e => .cp_E
  | .aluR .cp .h => .cp_H
  | .aluR .cp .l => .cp_L
  | .aluR .cp .a => .cp_A
  | .aluM .add => .add_A_atHL
  | .aluM .adc => .adc_A_atHL
  | .aluM .sub => .sub_atHL
  | .aluM .sbc => .sbc_A_atHL
  | .aluM .and => .and_atHL
  | .aluM .xor => .xor_atHL
  | .aluM .or => .or_atHL
  | .aluM .cp => .cp_atHL
  | .aluN .add n => .add_A_n8 n
  | .aluN .adc n => .adc_A_n8 n
  | .aluN .sub n => .sub_n8 n
  | .aluN .sbc n => .sbc_A_n8 n
  | .aluN .and n => .and_n8 n
  | .aluN .xor n => .xor_n8 n
  | .aluN .or n => .or_n8 n
  | .aluN .cp n => .cp_n8 n
  | .incR .b => .inc_B
  | .incR .c => .inc_C
  | .incR .d => .inc_D
  | .incR .e => .inc_E
  | .incR .h => .inc_H
  | .incR .l => .inc_L
  | .incR .a => .inc_A
  | .incM => .inc_atHL
  | .decR .b => .dec_B
  | .decR .c => .dec_C
  | .decR .d => .dec_D
  | .decR .e => .dec_E
  | .decR .h => .dec_H
  | .decR .l => .dec_L
  | .decR .a => .dec_A
  | .decM => .dec_atHL
  | .daa => .daa
  | .cpl => .cpl
  | .scf => .scf
  | .ccf => .ccf
  | .addHL .bc => .add_HL_BC
  | .addHL .de => .add_HL_DE
  | .addHL .hl => .add_HL_HL
  | .addHL .sp => .add_HL_SP
  | .incPair .bc => .inc_BC
  | .incPair .de => .inc_DE
  | .incPair .hl => .inc_HL
  | .incPair .sp => .inc_SP
  | .decPair .bc => .dec_BC
  | .decPair .de => .dec_DE
  | .decPair .hl => .dec_HL
  | .decPair .sp => .dec_SP
  | .addSPe e => .add_SP_e8 e
  | .rlca => .rlca
  | .rrca => .rrca
  | .rla => .rla
  | .rra => .rra
  | .rotR .rlc .b => .rlc_B
  | .rotR .rlc .c => .rlc_C
  | .rotR .rlc .d => .rlc_D
  | .rotR .rlc .e => .rlc_E
  | .rotR .rlc .h => .rlc_H
  | .rotR .rlc .l => .rlc_L
  | .rotR .rlc .a => .rlc_A
  | .rotR .rrc .b => .rrc_B
  | .rotR .rrc .c => .rrc_C
  | .rotR .rrc .d => .rrc_D
  | .rotR .rrc .e => .rrc_E
  | .rotR .rrc .h => .rrc_H
  | .rotR .rrc .l => .rrc_L
  | .rotR .rrc .a => .rrc_A
  | .rotR .rl .b => .rl_B
  | .rotR .rl .c => .rl_C
  | .rotR .rl .d => .rl_D
  | .rotR .rl .e => .rl_E
  | .rotR .rl .h => .rl_H
  | .rotR .rl .l => .rl_L
  | .rotR .rl .a => .rl_A
  | .rotR .rr .b => .rr_B
  | .rotR .rr .c => .rr_C
  | .rotR .rr .d => .rr_D
  | .rotR .rr .e => .rr_E
  | .rotR .rr .h => .rr_H
  | .rotR .rr .l => .rr_L
  | .rotR .rr .a => .rr_A
  | .rotR .sla .b => .sla_B
  | .rotR .sla .c => .sla_C
  | .rotR .sla .d => .sla_D
  | .rotR .sla .e => .sla_E
  | .rotR .sla .h => .sla_H
  | .rotR .sla .l => .sla_L
  | .rotR .sla .a => .sla_A
  | .rotR .sra .b => .sra_B
  | .rotR .sra .c => .sra_C
  | .rotR .sra .d => .sra_D
  | .rotR .sra .e => .sra_E
  | .rotR .sra .h => .sra_H
  | .rotR .sra .l => .sra_L
  | .rotR .sra .a => .sra_A
  | .rotR .swap .b => .swap_B
  | .rotR .swap .c => .swap_C
  | .rotR .swap .d => .swap_D
  | .rotR .swap .e => .swap_E
  | .rotR .swap .h => .swap_H
  | .rotR .swap .l => .swap_L
  | .rotR .swap .a => .swap_A
  | .rotR .srl .b => .srl_B
  | .rotR .srl .c => .srl_C
  | .rotR .srl .d => .srl_D
  | .rotR .srl .e => .srl_E
  | .rotR .srl .h => .srl_H
  | .rotR .srl .l => .srl_L
  | .rotR .srl .a => .srl_A
  | .rotM .rlc => .rlc_atHL
  | .rotM .rrc => .rrc_atHL
  | .rotM .rl => .rl_atHL
  | .rotM .rr => .rr_atHL
  | .rotM .sla => .sla_atHL
  | .rotM .sra => .sra_atHL
  | .rotM .swap => .swap_atHL
  | .rotM .srl => .srl_atHL
  | .bitR .o0 .b => .bit_0_B
  | .bitR .o0 .c => .bit_0_C
  | .bitR .o0 .d => .bit_0_D
  | .bitR .o0 .e => .bit_0_E
  | .bitR .o0 .h => .bit_0_H
  | .bitR .o0 .l => .bit_0_L
  | .bitR .o0 .a => .bit_0_A
  | .bitR .o1 .b => .bit_1_B
  | .bitR .o1 .c => .bit_1_C
  | .bitR .o1 .d => .bit_1_D
  | .bitR .o1 .e => .bit_1_E
  | .bitR .o1 .h => .bit_1_H
  | .bitR .o1 .l => .bit_1_L
  | .bitR .o1 .a => .bit_1_A
  | .bitR .o2 .b => .bit_2_B
  | .bitR .o2 .c => .bit_2_C
  | .bitR .o2 .d => .bit_2_D
  | .bitR .o2 .e => .bit_2_E
  | .bitR .o2 .h => .bit_2_H
  | .bitR .o2 .l => .bit_2_L
  | .bitR .o2 .a => .bit_2_A
  | .bitR .o3 .b => .bit_3_B
  | .bitR .o3 .c => .bit_3_C
  | .bitR .o3 .d => .bit_3_D
  | .bitR .o3 .e => .bit_3_E
  | .bitR .o3 .h => .bit_3_H
  | .bitR .o3 .l => .bit_3_L
  | .bitR .o3 .a => .bit_3_A
  | .bitR .o4 .b => .bit_4_B
  | .bitR .o4 .c => .bit_4_C
  | .bitR .o4 .d => .bit_4_D
  | .bitR .o4 .e => .bit_4_E
  | .bitR .o4 .h => .bit_4_H
  | .bitR .o4 .l => .bit_4_L
  | .bitR .o4 .a => .bit_4_A
  | .bitR .o5 .b => .bit_5_B
  | .bitR .o5 .c => .bit_5_C
  | .bitR .o5 .d => .bit_5_D
  | .bitR .o5 .e => .bit_5_E
  | .bitR .o5 .h => .bit_5_H
  | .bitR .o5 .l => .bit_5_L
  | .bitR .o5 .a => .bit_5_A
  | .bitR .o6 .b => .bit_6_B
  | .bitR .o6 .c => .bit_6_C
  | .bitR .o6 .d => .bit_6_D
  | .bitR .o6 .e => .bit_6_E
  | .bitR .o6 .h => .bit_6_H
  | .bitR .o6 .l => .bit_6_L
  | .bitR .o6 .a => .bit_6_A
  | .bitR .o7 .b => .bit_7_B
  | .bitR .o7 .c => .bit_7_C
  | .bitR .o7 .d => .bit_7_D
  | .bitR .o7 .e => .bit_7_E
  | .bitR .o7 .h => .bit_7_H
  | .bitR .o7 .l => .bit_7_L
  | .bitR .o7 .a => .bit_7_A
  | .bitM .o0 => .bit_0_atHL
  | .bitM .o1 => .bit_1_atHL
  | .bitM .o2 => .bit_2_atHL
  | .bitM .o3 => .bit_3_atHL
  | .bitM .o4 => .bit_4_atHL
  | .bitM .o5 => .bit_5_atHL
  | .bitM .o6 => .bit_6_atHL
  | .bitM .o7 => .bit_7_atHL
  | .resR .o0 .b => .res_0_B
  | .resR .o0 .c => .res_0_C
  | .resR .o0 .d => .res_0_D
  | .resR .o0 .e => .res_0_E
  | .resR .o0 .h => .res_0_H
  | .resR .o0 .l => .res_0_L
  | .resR .o0 .a => .res_0_A
  | .resR .o1 .b => .res_1_B
  | .resR .o1 .c => .res_1_C
  | .resR .o1 .d => .res_1_D
  | .resR .o1 .e => .res_1_E
  | .resR .o1 .h => .res_1_H
  | .resR .o1 .l => .res_1_L
  | .resR .o1 .a => .res_1_A
  | .resR .o2 .b => .res_2_B
  | .resR .o2 .c => .res_2_C
  | .resR .o2 .d => .res_2_D
  | .resR .o2 .e => .res_2_E
  | .resR .o2 .h => .res_2_H
  | .resR .o2 .l => .res_2_L
  | .resR .o2 .a => .res_2_A
  | .resR .o3 .b => .res_3_B
  | .resR .o3 .c => .res_3_C
  | .resR .o3 .d => .res_3_D
  | .resR .o3 .e => .res_3_E
  | .resR .o3 .h => .res_3_H
  | .resR .o3 .l => .res_3_L
  | .resR .o3 .a => .res_3_A
  | .resR .o4 .b => .res_4_B
  | .resR .o4 .c => .res_4_C
  | .resR .o4 .d => .res_4_D
  | .resR .o4 .e => .res_4_E
  | .resR .o4 .h => .res_4_H
  | .resR .o4 .l => .res_4_L
  | .resR .o4 .a => .res_4_A
  | .resR .o5 .b => .res_5_B
  | .resR .o5 .c => .res_5_C
  | .resR .o5 .d => .res_5_D
  | .resR .o5 .e => .res_5_E
  | .resR .o5 .h => .res_5_H
  | .resR .o5 .l => .res_5_L
  | .resR .o5 .a => .res_5_A
  | .resR .o6 .b => .res_6_B
  | .resR .o6 .c => .res_6_C
  | .resR .o6 .d => .res_6_D
  | .resR .o6 .e => .res_6_E
  | .resR .o6 .h => .res_6_H
  | .resR .o6 .l => .res_6_L
  | .resR .o6 .a => .res_6_A
  | .resR .o7 .b => .res_7_B
  | .resR .o7 .c => .res_7_C
  | .resR .o7 .d => .res_7_D
  | .resR .o7 .e => .res_7_E
  | .resR .o7 .h => .res_7_H
  | .resR .o7 .l => .res_7_L
  | .resR .o7 .a => .res_7_A
  | .resM .o0 => .res_0_atHL
  | .resM .o1 => .res_1_atHL
  | .resM .o2 => .res_2_atHL
  | .resM .o3 => .res_3_atHL
  | .resM .o4 => .res_4_atHL
  | .resM .o5 => .res_5_atHL
  | .resM .o6 => .res_6_atHL
  | .resM .o7 => .res_7_atHL
  | .setR .o0 .b => .set_0_B
  | .setR .o0 .c => .set_0_C
  | .setR .o0 .d => .set_0_D
  | .setR .o0 .e => .set_0_E
  | .setR .o0 .h => .set_0_H
  | .setR .o0 .l => .set_0_L
  | .setR .o0 .a => .set_0_A
  | .setR .o1 .b => .set_1_B
  | .setR .o1 .c => .set_1_C
  | .setR .o1 .d => .set_1_D
  | .setR .o1 .e => .set_1_E
  | .setR .o1 .h => .set_1_H
  | .setR .o1 .l => .set_1_L
  | .setR .o1 .a => .set_1_A
  | .setR .o2 .b => .set_2_B
  | .setR .o2 .c => .set_2_C
  | .setR .o2 .d => .set_2_D
  | .setR .o2 .e => .set_2_E
  | .setR .o2 .h => .set_2_H
  | .setR .o2 .l => .set_2_L
  | .setR .o2 .a => .set_2_A
  | .setR .o3 .b => .set_3_B
  | .setR .o3 .c => .set_3_C
  | .setR .o3 .d => .set_3_D
  | .setR .o3 .e => .set_3_E
  | .setR .o3 .h => .set_3_H
  | .setR .o3 .l => .set_3_L
  | .setR .o3 .a => .set_3_A
  | .setR .o4 .b => .set_4_B
  | .setR .o4 .c => .set_4_C
  | .setR .o4 .d => .set_4_D
  | .setR .o4 .e => .set_4_E
  | .setR .o4 .h => .set_4_H
  | .setR .o4 .l => .set_4_L
  | .setR .o4 .a => .set_4_A
  | .setR .o5 .b => .set_5_B
  | .setR .o5 .c => .set_5_C
  | .setR .o5 .d => .set_5_D
  | .setR .o5 .e => .set_5_E
  | .setR .o5 .h => .set_5_H
  | .setR .o5 .l => .set_5_L
  | .setR .o5 .a => .set_5_A
  | .setR .o6 .b => .set_6_B
  | .setR .o6 .c => .set_6_C
  | .setR .o6 .d => .set_6_D
  | .setR .o6 .e => .set_6_E
  | .setR .o6 .h => .set_6_H
  | .setR .o6 .l => .set_6_L
  | .setR .o6 .a => .set_6_A
  | .setR .o7 .b => .set_7_B
  | .setR .o7 .c => .set_7_C
  | .setR .o7 .d => .set_7_D
  | .setR .o7 .e => .set_7_E
  | .setR .o7 .h => .set_7_H
  | .setR .o7 .l => .set_7_L
  | .setR .o7 .a => .set_7_A
  | .setM .o0 => .set_0_atHL
  | .setM .o1 => .set_1_atHL
  | .setM .o2 => .set_2_atHL
  | .setM .o3 => .set_3_atHL
  | .setM .o4 => .set_4_atHL
  | .setM .o5 => .set_5_atHL
  | .setM .o6 => .set_6_atHL
  | .setM .o7 => .set_7_atHL
  | .jp nn => .jp_n16 nn
  | .jpCc .nz nn => .jp_NZ_n16 nn
  | .jpCc .z nn => .jp_Z_n16 nn
  | .jpCc .nc nn => .jp_NC_n16 nn
  | .jpCc .c nn => .jp_C_n16 nn
  | .jr e => .jr_e8 e
  | .jrCc .nz e => .jr_NZ_e8 e
  | .jrCc .z e => .jr_Z_e8 e
  | .jrCc .nc e => .jr_NC_e8 e
  | .jrCc .c e => .jr_C_e8 e
  | .jpHL => .jp_HL
  | .call nn => .call_n16 nn
  | .callCc .nz nn => .call_NZ_n16 nn
  | .callCc .z nn => .call_Z_n16 nn
  | .callCc .nc nn => .call_NC_n16 nn
  | .callCc .c nn => .call_C_n16 nn
  | .ret => .ret
  | .retCc .nz => .ret_NZ
  | .retCc .z => .ret_Z
  | .retCc .nc => .ret_NC
  | .retCc .c => .ret_C
  | .reti => .reti
  | .rst .o0 => .rst_00
  | .rst .o1 => .rst_08
  | .rst .o2 => .rst_10
  | .rst .o3 => .rst_18
  | .rst .o4 => .rst_20
  | .rst .o5 => .rst_28
  | .rst .o6 => .rst_30
  | .rst .o7 => .rst_38
  | .nop => .nop
  | .di => .di
  | .ei => .ei
  | .halt => .halt
  | .stop n => .stop n
  | .prefixCB => .prefixCB
  | .illegal op => .illegal op

end Form

end Sys2Proof
end

