-- ==== Sys2Proof/Machine/State.lean ====
section
/-! DEFINITION. The state of the whole console core as plain data (10_state.md), the reasons a step can stop, and the reset
states (R510 to R514). -/

namespace Sys2Proof.Machine

/-- The six event handles (R24). -/
inductive Handle where
  | ppu
  | timerInc
  | timerReload
  | apuFs
  | apuSample
  | oamDma
  deriving DecidableEq, Repr

/-- The fatal errors: the machine stops and reports (R34, R496, R497). -/
inductive Fault where
  /-- `FatalUndefinedOpcode(opcode, address)` (R199, R496), raised by the arm of `illegal`. The spec's own fault, safe. -/
  | undefinedOpcode (opcode : Byte) (address : Word)
  /-- `FatalSchedulerMisuse` (R497): `Schedule` of a pending handle (`some h`, R174), raised by `State.schedule`, or
  `UntilNextEvent` of an empty queue (`none`, R178), raised by `iterate`. The spec's own fault, safe. -/
  | schedulerMisuse (handle : Option Handle)
  /-- Raised by `commit` when its loop (R176) has not ended after as many events as can fall due with admissible
  parameters: with a `SAMPLE_PERIOD` of 0, which R8 does not admit, the loop of the spec never ends. Safe. -/
  | commitUnbounded
  deriving DecidableEq, Repr

/-- Why an instruction has no meaning. -/
inductive Refusal where
  /-- Raised only by an arm of `exec` that has no meaning yet; there is none. Safe. -/
  | notModelled (mnemonic : String)
  deriving DecidableEq, Repr

/-- The scheduler (R20 to R22). -/
structure Sched where
  /-- `sched.cycle`, the committed counter in master cycles -/
  cycle : Nat
  /-- `sched.staged`, charged and not yet committed -/
  staged : Nat
  /-- `sched.queue`: pending handles with their due cycles, ascending -/
  queue : List (Handle × Int)
  deriving DecidableEq, Repr

/-- The flag register (R27): F bits 7 to 4. Bits 3:0 always read 0 and are not state. -/
structure Flags where
  z : Bool
  n : Bool
  h : Bool
  c : Bool
  deriving DecidableEq, Repr

/-- The CPU (R25 to R33). -/
structure Cpu where
  a : Byte
  b : Byte
  c : Byte
  d : Byte
  e : Byte
  h : Byte
  l : Byte
  f : Flags
  sp : Word
  pc : Word
  /-- `IME` (R30) -/
  ime : Bool
  /-- `ime_pending` (R31) -/
  imePending : Bool
  /-- `halted` (R32) -/
  halted : Bool
  /-- `speed`: true is double speed (R33) -/
  speed : Bool
  /-- `speed_armed` (R33) -/
  speedArmed : Bool
  deriving DecidableEq, Repr

/-- The interrupt controller: IF and IE, bit 0 VBlank to bit 4 Joypad (R35, R36). -/
structure Irq where
  pending : BitVec 5
  enable : BitVec 5
  deriving DecidableEq, Repr

/-- The memories the CORE owns and their bank selects (R37 to R42, R44). -/
structure Mems where
  /-- two banks of 8192 bytes, bank 1 on CGB only: key `8192 * bank + offset` (R37) -/
  vram : Memory
  /-- eight banks of 4096 bytes, banks 2 to 7 on CGB only: key `4096 * bank + offset` (R39) -/
  wram : Memory
  /-- 160 bytes (R38) -/
  oam : Memory
  /-- 127 bytes (R40) -/
  hram : Memory
  /-- 16 bytes of wave pattern (R42) -/
  wave : Memory
  /-- 64 bytes, CGB (R41) -/
  bgPal : Memory
  /-- 64 bytes, CGB (R41) -/
  objPal : Memory
  /-- `vbk`, CGB (R37) -/
  vbk : BitVec 1
  /-- `svbk`, CGB (R39) -/
  svbk : BitVec 3
  /-- `boot_mapped` (R44) -/
  bootMapped : Bool
  deriving DecidableEq, Repr

/-- `ppu.mode` (R52). -/
inductive Mode where
  | hblank
  | vblank
  | oamScan
  | transfer
  deriving DecidableEq, Repr

/-- The two bits STAT shows for a mode (R46, R52). -/
def Mode.bits : Mode → BitVec 2
  | .hblank => 0
  | .vblank => 1
  | .oamScan => 2
  | .transfer => 3

/-- `ppu.phase`: which wait the pending `EV_PPU` ends (R52). -/
inductive Phase where
  | off
  | m2
  | m3
  | m0
  | m1
  deriving DecidableEq, Repr

/-- A palette index register, BCPS or OCPS (R41). -/
structure PalIndex where
  inc : Bool
  index : BitVec 6
  deriving DecidableEq, Repr

/-- The PPU (R43, R45 to R56). -/
structure Ppu where
  lcdc : Byte
  /-- the stored bits STAT[6:3] (R46) -/
  statEn : BitVec 4
  scy : Byte
  scx : Byte
  ly : Byte
  lyc : Byte
  bgp : Byte
  obp0 : Byte
  obp1 : Byte
  wy : Byte
  wx : Byte
  mode : Mode
  phase : Phase
  /-- `ppu.line_start` (R53) -/
  lineStart : Int
  /-- `ppu.stat_prev` (R54) -/
  statPrev : Bool
  /-- `ppu.frame` (R55) -/
  frame : Nat
  skipFrame : Bool
  windowLine : Byte
  /-- `ppu.scan`: at most 10 OAM indices (R56) -/
  scan : List Nat
  m3Extra : Nat
  bcps : PalIndex
  ocps : PalIndex
  /-- `FB` (R43): pixel `160 * y + x`; an unlisted pixel has the blank colour -/
  fb : List (Nat × Rgba)
  deriving DecidableEq, Repr

/-- A square channel, 1 or 2, with the stored bits of its registers (R57, R61 to R65). -/
structure Square where
  enabled : Bool
  length : Nat
  lenEn : Bool
  freq : BitVec 11
  timer : Nat
  dutyStep : BitVec 3
  volume : BitVec 4
  envTimer : Nat
  /-- NRk1[7:6] -/
  duty : BitVec 2
  /-- NRk2 -/
  nr2 : Byte
  deriving DecidableEq, Repr

/-- The wave channel, 3 (R57, R61 to R64). -/
structure Wave where
  enabled : Bool
  length : Nat
  lenEn : Bool
  freq : BitVec 11
  timer : Nat
  pos : BitVec 5
  sample : BitVec 4
  /-- NR30[7] -/
  dac : Bool
  /-- NR32[6:5] -/
  level : BitVec 2
  deriving DecidableEq, Repr

/-- The noise channel, 4 (R57, R61 to R65). -/
structure Noise where
  enabled : Bool
  length : Nat
  lenEn : Bool
  timer : Nat
  lfsr : BitVec 15
  volume : BitVec 4
  envTimer : Nat
  /-- NR42 -/
  nr2 : Byte
  /-- NR43 -/
  nr3 : Byte
  deriving DecidableEq, Repr

/-- The sweep unit of channel 1 (R66) with the stored NR10. -/
structure Sweep where
  shadow : BitVec 11
  timer : Nat
  enabled : Bool
  /-- NR10[6:0] -/
  nr10 : BitVec 7
  deriving DecidableEq, Repr

/-- The APU (R57 to R67). -/
structure Apu where
  power : Bool
  fsStep : BitVec 3
  /-- `apu.synced` (R60) -/
  synced : Int
  ch1 : Square
  ch2 : Square
  ch3 : Wave
  ch4 : Noise
  sweep : Sweep
  nr50 : Byte
  nr51 : Byte
  deriving DecidableEq, Repr

/-- The timer (R68 to R70). -/
structure Timer where
  /-- `timer.div_zero`: the cycle at which the internal counter was zero -/
  divZero : Int
  tima : Byte
  tma : Byte
  tac : BitVec 3
  deriving DecidableEq, Repr

/-- `vdma.mode` (R73). -/
inductive VdmaMode where
  | general
  | hblank
  deriving DecidableEq, Repr

/-- The DMA engines (R71 to R73). -/
structure Dma where
  /-- `oamdma.page` -/
  page : Byte
  hdma1 : Byte
  hdma2 : Byte
  hdma3 : Byte
  hdma4 : Byte
  /-- the last byte written to HDMA5; its read is computed (R467) -/
  hdma5 : Byte
  mode : VdmaMode
  src : Word
  dst : Word
  remaining : Nat
  active : Bool
  complete : Bool
  deriving DecidableEq, Repr

/-- Which kind of cartridge `CART` is (R112). -/
inductive CartKind where
  /-- no bank controller: the ROM window shows the ROM image, writes to it are dropped (95_test_vectors.md, conventions) -/
  | plain
  /-- any other device of the interface: `Collab.cartRead`, `Collab.cartWrite` -/
  | device
  deriving DecidableEq, Repr

/-- The cartridge (R74, R112). Its metadata, its kind and its ROM image are no state: `LoadROM` fixes them and nothing changes them
while the cartridge is loaded (R75, R113). -/
structure Cart where
  info : CartInfo
  kind : CartKind
  /-- the ROM image, by offset -/
  rom : Memory
  /-- the length of the ROM image in bytes -/
  romSize : Nat
  /-- everything the cartridge remembers: its bank controller and its RAM -/
  hidden : Nat
  deriving DecidableEq, Repr

/-- The joypad: what JOYP shows, and a number for everything else it remembers (R74, R114). -/
structure Joypad where
  shown : Byte
  hidden : Nat
  deriving DecidableEq, Repr

/-- The serial port: what SB and SC show, and a number for everything else it remembers (R74, R115). -/
structure Serial where
  sb : Byte
  sc : Byte
  hidden : Nat
  deriving DecidableEq, Repr

/-- The whole console state, a single mutation domain (10_state.md). -/
structure State where
  /-- the parameters (R8, R75); nothing changes them after `LoadROM` -/
  cfg : Config
  sched : Sched
  cpu : Cpu
  irq : Irq
  mems : Mems
  ppu : Ppu
  apu : Apu
  timer : Timer
  dma : Dma
  cart : Cart
  joypad : Joypad
  serial : Serial
  /-- `apu.sample_out`: pairs handed to the audio sink, oldest first (R67) -/
  sampleOut : List (Nat × Nat)
  /-- `fault` (R34) -/
  fault : Option Fault
  deriving DecidableEq, Repr

/-! Reset (R510 to R514). `skip` is the argument of `Reset(skipBootROM)`. -/

/-- The CPU after reset (R514): zero, or the registers the boot ROM leaves. -/
def Cpu.reset (model : Model) (skip : Bool) : Cpu :=
  let zero : Cpu :=
    { a := 0, b := 0, c := 0, d := 0, e := 0, h := 0, l := 0, f := ⟨false, false, false, false⟩, sp := 0, pc := 0,
      ime := false, imePending := false, halted := false, speed := false, speedArmed := false }
  match skip, model with
  | false, _ => zero
  | true, .dmg =>
    { zero with
      a := 0x01, f := ⟨true, false, true, true⟩, b := 0x00, c := 0x13, d := 0x00, e := 0xD8, h := 0x01, l := 0x4D,
      sp := 0xFFFE, pc := 0x0100 }
  | true, .cgb =>
    { zero with
      a := 0x11, f := ⟨true, false, false, false⟩, b := 0x00, c := 0x00, d := 0xFF, e := 0x56, h := 0x00, l := 0x0D,
      sp := 0xFFFE, pc := 0x0100 }

/-- The initial events in the order R513 schedules them, each inserted by due cycle (R173). -/
def Sched.reset (samplePeriod : Nat) (skip : Bool) : Sched :=
  { cycle := 0
    staged := 0
    queue :=
      enqueue .apuSample (samplePeriod : Int) (enqueue .apuFs 8192 (enqueue .ppu (if skip then 80 else 70224) [])) }

/-- Palette memory of which every colour is 0x7FFF, low byte first (R41 `Reset(true)`). -/
def whitePalette : Memory :=
  (List.range 64).map (fun k => (k, if k % 2 = 0 then (0xFF : Byte) else 0x7F))

/-- The memories after reset: zero, nothing listed; on a CGB after `Reset(true)` the palettes are white. -/
def Mems.reset (model : Model) (skip : Bool) : Mems :=
  let pal : Memory := if skip && decide (model = .cgb) then whitePalette else []
  { vram := [], wram := [], oam := [], hram := [], wave := [], bgPal := pal, objPal := pal, vbk := 0, svbk := 0,
    bootMapped := !skip }

/-- The PPU after reset (R514). -/
def Ppu.reset (skip : Bool) : Ppu :=
  { lcdc := if skip then 0x91 else 0x00, statEn := 0, scy := 0, scx := 0, ly := 0, lyc := 0,
    bgp := if skip then 0xFC else 0x00, obp0 := if skip then 0xFF else 0x00, obp1 := if skip then 0xFF else 0x00,
    wy := 0, wx := 0, mode := if skip then .oamScan else .hblank, phase := if skip then .m2 else .off,
    lineStart := 0, statPrev := false, frame := 0, skipFrame := false, windowLine := 0, scan := [], m3Extra := 0,
    bcps := ⟨false, 0⟩, ocps := ⟨false, 0⟩, fb := [] }

/-- A square channel after reset: its period for `freq = 0` is 8192 (R63). -/
def Square.reset (duty : BitVec 2) (nr2 : Byte) : Square :=
  { enabled := false, length := 0, lenEn := false, freq := 0, timer := 8192, dutyStep := 0, volume := 0, envTimer := 0,
    duty := duty, nr2 := nr2 }

/-- The APU after reset (R57, R514). -/
def Apu.reset (skip : Bool) : Apu :=
  { power := skip, fsStep := 0, synced := 0,
    ch1 := if skip then Square.reset 2 0xF3 else Square.reset 0 0,
    ch2 := Square.reset 0 0,
    ch3 := { enabled := false, length := 0, lenEn := false, freq := 0, timer := 4096, pos := 0, sample := 0, dac := false,
             level := 0 },
    ch4 := { enabled := false, length := 0, lenEn := false, timer := 8, lfsr := 0x7FFF, volume := 0, envTimer := 0,
             nr2 := 0, nr3 := 0 },
    sweep := { shadow := 0, timer := 0, enabled := false, nr10 := 0 },
    nr50 := if skip then 0x77 else 0, nr51 := if skip then 0xF3 else 0 }

/-- The DMA engines after reset (R71 to R73). -/
def Dma.reset (skip : Bool) : Dma :=
  { page := if skip then 0xFF else 0x00, hdma1 := 0, hdma2 := 0, hdma3 := 0, hdma4 := 0, hdma5 := 0, mode := .general,
    src := 0, dst := 0, remaining := 0, active := false, complete := true }

/-- The console after `Reset(skip)` with given parameters and collaborators (R510, R512 to R514). -/
def State.resetWith (cfg : Config) (skip : Bool) (cart : Cart) (joypad : Joypad) (serial : Serial) : State :=
  { cfg := cfg
    sched := Sched.reset cfg.samplePeriod skip
    cpu := Cpu.reset cfg.model skip
    irq := { pending := if skip then 1 else 0, enable := 0 }
    mems := Mems.reset cfg.model skip
    ppu := Ppu.reset skip
    apu := Apu.reset skip
    timer := { divZero := if skip then -(cfg.divReset : Int) else 0, tima := 0, tma := 0, tac := 0 }
    dma := Dma.reset skip
    cart := cart
    joypad := joypad
    serial := serial
    sampleOut := []
    fault := none }

/-- A cartridge without a bank controller: 32 KiB of ROM that is all 0, no title, no CGB support, no RAM. -/
def Cart.blank : Cart :=
  { info := { title := [], cgbSupport := false, ramSize := 0 }, kind := .plain, rom := [], romSize := 0x8000, hidden := 0 }

/-- The machine right after reset: `Reset(true)` of a DMG with the default parameters (R511, R514), a blank cartridge, and
idle joypad and serial port. -/
def State.reset : State :=
  State.resetWith (defaultConfig .dmg) true Cart.blank { shown := 0xFF, hidden := 0 } { sb := 0xFF, sc := 0xFF, hidden := 0 }

end Sys2Proof.Machine
end

