-- ==== Sys2Proof/Machine/Apu.lean ====
section
/-! DEFINITION. The APU (47_apu.md) as functions of its own state and the wave pattern: channel timers and catch-up, frame
sequencer, sweep, envelope, length, triggers, mixer, register access. -/

namespace Sys2Proof.Machine

/-! Periods and step actions of the channels (R386, R393, R396). -/

/-- `Period(k)` of a square channel (R386). -/
def Square.period (c : Square) : Nat := (2048 - c.freq.toNat) * 4

/-- `Period(3)` (R393). -/
def Wave.period (c : Wave) : Nat := (2048 - c.freq.toNat) * 2

/-- `NOISE_DIVISOR` (R396). -/
def noiseDivisor (r : Nat) : Nat :=
  match r with
  | 0 => 8
  | r => 16 * r

/-- `Period(4)` (R396). -/
def Noise.period (c : Noise) : Nat :=
  noiseDivisor (c.nr3.extractLsb' 0 3).toNat <<< (c.nr3.extractLsb' 4 4).toNat

/-- The timer of a square channel reaches 0: reload and step the duty (R371, R386). -/
def Square.expire (c : Square) : Square := { c with timer := c.period, dutyStep := c.dutyStep + 1 }

/-- Sample `pos` of the wave pattern, high nibble first (R42, R393). -/
def waveSample (wave : Memory) (pos : BitVec 5) : BitVec 4 :=
  let b := wave.read (pos.toNat / 2)
  if pos.getLsbD 0 then b.extractLsb' 0 4 else b.extractLsb' 4 4

/-- The timer of the wave channel reaches 0: reload, advance the position and fetch the sample (R371, R393). -/
def Wave.expire (wave : Memory) (c : Wave) : Wave :=
  { c with timer := c.period, pos := c.pos + 1, sample := waveSample wave (c.pos + 1) }

/-- One step of the LFSR, 15 bits, or 7 bits by NR43[3] (R396). -/
def lfsrStep (narrow : Bool) (l : BitVec 15) : BitVec 15 :=
  let x : BitVec 1 := l.extractLsb' 0 1 ^^^ l.extractLsb' 1 1
  let l' : BitVec 15 := x ++ l.extractLsb' 1 14
  if narrow then l'.extractLsb' 7 8 ++ x ++ l'.extractLsb' 0 6 else l'

/-- The timer of the noise channel reaches 0: reload and step the LFSR (R371, R396). -/
def Noise.expire (c : Noise) : Noise := { c with timer := c.period, lfsr := lfsrStep (c.nr3.getLsbD 3) c.lfsr }

/-! Channel timers. A channel's timer is read by `timer`, replaced by `setTimer`, and `expire` is what happens when it
reaches 0: the reload and the step action. -/

/-- One master cycle of a channel (R371). -/
def tickChannel {α : Type} (timer : α → Nat) (setTimer : α → Nat → α) (expire : α → α) (c : α) : α :=
  if timer c - 1 = 0 then expire c else setTimer c (timer c - 1)

/-- The loop of `ApuCatchUp` for one channel (R376): `n` cycles; `fuel` bounds the number of expiries, at most one a cycle. -/
def runChannel {α : Type} (timer : α → Nat) (setTimer : α → Nat → α) (expire : α → α) : Nat → Nat → α → α
  | 0, _, c => c
  | fuel + 1, n, c =>
    if timer c ≤ n then runChannel timer setTimer expire fuel (n - timer c) (expire c) else setTimer c (timer c - n)

/-- `n` master cycles of a square channel. -/
def Square.run (n : Nat) (c : Square) : Square :=
  runChannel (fun c => c.timer) (fun c t => { c with timer := t }) Square.expire (n + 1) n c

/-- `n` master cycles of the wave channel. -/
def Wave.run (wave : Memory) (n : Nat) (c : Wave) : Wave :=
  runChannel (fun c => c.timer) (fun c t => { c with timer := t }) (Wave.expire wave) (n + 1) n c

/-- `n` master cycles of the noise channel. -/
def Noise.run (n : Nat) (c : Noise) : Noise :=
  runChannel (fun c => c.timer) (fun c t => { c with timer := t }) Noise.expire (n + 1) n c

/-- One master cycle of a square channel (R371). -/
def Square.tick (c : Square) : Square := tickChannel (fun c => c.timer) (fun c t => { c with timer := t }) Square.expire c

/-- One master cycle of the wave channel (R371). -/
def Wave.tick (wave : Memory) (c : Wave) : Wave :=
  tickChannel (fun c => c.timer) (fun c t => { c with timer := t }) (Wave.expire wave) c

/-- One master cycle of the noise channel (R371). -/
def Noise.tick (c : Noise) : Noise := tickChannel (fun c => c.timer) (fun c t => { c with timer := t }) Noise.expire c

namespace Apu

/-- One master cycle of the whole APU, the reference semantics (R371). -/
def tick (wave : Memory) (a : Apu) : Apu :=
  let a := { a with synced := a.synced + 1 }
  if a.power then { a with ch1 := a.ch1.tick, ch2 := a.ch2.tick, ch3 := a.ch3.tick wave, ch4 := a.ch4.tick } else a

/-- `ApuCatchUp(t)` (R376). -/
def catchUp (wave : Memory) (t : Int) (a : Apu) : Apu :=
  let n := (t - a.synced).toNat
  let a := { a with synced := t }
  if a.power then { a with ch1 := a.ch1.run n, ch2 := a.ch2.run n, ch3 := a.ch3.run wave n, ch4 := a.ch4.run n } else a

/-! Frame sequencer (R380 to R384). -/

/-- `SweepCalc()`: the new frequency, an integer (R384). -/
def sweepNew (a : Apu) : Nat :=
  let f := a.sweep.shadow.toNat
  let d := f >>> (a.sweep.nr10.extractLsb' 0 3).toNat
  if a.sweep.nr10.getLsbD 3 then f - d else f + d

/-- The effect of `SweepCalc()`: an overflow disables channel 1 (R384). -/
def sweepCheck (a : Apu) : Apu := if a.sweepNew ≤ 2047 then a else { a with ch1 := { a.ch1 with enabled := false } }

/-- The sweep interval NR10[6:4]. -/
def sweepInterval (a : Apu) : Nat := (a.sweep.nr10.extractLsb' 4 3).toNat

/-- The sweep shift NR10[2:0]. -/
def sweepShift (a : Apu) : Nat := (a.sweep.nr10.extractLsb' 0 3).toNat

/-- `ClockSweep()` (R383). -/
def clockSweep (a : Apu) : Apu :=
  let t := a.sweep.timer - 1
  if t = 0 then
    let a := { a with sweep := { a.sweep with timer := if a.sweepInterval ≠ 0 then a.sweepInterval else 8 } }
    if a.sweep.enabled && decide (a.sweepInterval ≠ 0) then
      let new := a.sweepNew
      let a := a.sweepCheck
      if new ≤ 2047 ∧ a.sweepShift ≠ 0 then
        let f : BitVec 11 := BitVec.ofNat 11 new
        { a with sweep := { a.sweep with shadow := f }, ch1 := { a.ch1 with freq := f } }.sweepCheck
      else a
    else a
  else { a with sweep := { a.sweep with timer := t } }

end Apu

/-- A length counter clocked once: (length, enabled) (R381). -/
def lengthClock (lenEn : Bool) (length : Nat) (enabled : Bool) : Nat × Bool :=
  if lenEn && decide (0 < length) then (length - 1, enabled && decide (length - 1 ≠ 0)) else (length, enabled)

/-- `ClockLength()` for a square channel (R381). -/
def Square.clockLength (c : Square) : Square :=
  let (l, e) := lengthClock c.lenEn c.length c.enabled
  { c with length := l, enabled := e }

/-- `ClockLength()` for the wave channel (R381). -/
def Wave.clockLength (c : Wave) : Wave :=
  let (l, e) := lengthClock c.lenEn c.length c.enabled
  { c with length := l, enabled := e }

/-- `ClockLength()` for the noise channel (R381). -/
def Noise.clockLength (c : Noise) : Noise :=
  let (l, e) := lengthClock c.lenEn c.length c.enabled
  { c with length := l, enabled := e }

/-- An envelope clocked once with its NRk2: (env_timer, volume) (R382). -/
def envelopeClock (nr2 : Byte) (envTimer : Nat) (volume : BitVec 4) : Nat × BitVec 4 :=
  let p := (nr2.extractLsb' 0 3).toNat
  if p = 0 then (envTimer, volume)
  else if envTimer - 1 = 0 then
    (p, if nr2.getLsbD 3 then (if volume.toNat < 15 then volume + 1 else volume)
        else (if 0 < volume.toNat then volume - 1 else volume))
  else (envTimer - 1, volume)

/-- `ClockEnvelope()` for a square channel (R382). -/
def Square.clockEnvelope (c : Square) : Square :=
  let (t, v) := envelopeClock c.nr2 c.envTimer c.volume
  { c with envTimer := t, volume := v }

/-- `ClockEnvelope()` for the noise channel (R382). -/
def Noise.clockEnvelope (c : Noise) : Noise :=
  let (t, v) := envelopeClock c.nr2 c.envTimer c.volume
  { c with envTimer := t, volume := v }

namespace Apu

/-- `ClockLength()` (R381). -/
def clockLength (a : Apu) : Apu :=
  { a with ch1 := a.ch1.clockLength, ch2 := a.ch2.clockLength, ch3 := a.ch3.clockLength, ch4 := a.ch4.clockLength }

/-- `ClockEnvelope()` (R382). -/
def clockEnvelope (a : Apu) : Apu :=
  { a with ch1 := a.ch1.clockEnvelope, ch2 := a.ch2.clockEnvelope, ch4 := a.ch4.clockEnvelope }

/-- One step of the frame sequencer (R380). -/
def frameStep (a : Apu) : Apu :=
  if a.power then
    let step := a.fsStep.toNat
    let a := if step % 2 = 0 then a.clockLength else a
    let a := if step = 2 ∨ step = 6 then a.clockSweep else a
    let a := if step = 7 then a.clockEnvelope else a
    { a with fsStep := a.fsStep + 1 }
  else a

end Apu

/-! DACs and triggers (R399, R400). -/

/-- The DAC of a channel with an NRk2 (R399). -/
def dacOn (nr2 : Byte) : Bool := decide (nr2.extractLsb' 3 5 ≠ 0)

/-- The envelope timer a trigger loads (R400). -/
def envReload (nr2 : Byte) : Nat :=
  let p := (nr2.extractLsb' 0 3).toNat
  if p ≠ 0 then p else 8

/-- `Trigger(k)` for k = 1, 2 but for channel 1's sweep (R400). -/
def Square.trigger (c : Square) : Square :=
  { c with
    enabled := dacOn c.nr2, length := if c.length = 0 then 64 else c.length, timer := c.period,
    envTimer := envReload c.nr2, volume := c.nr2.extractLsb' 4 4 }

/-- `Trigger(3)` (R400). -/
def Wave.trigger (c : Wave) : Wave :=
  { c with enabled := c.dac, length := if c.length = 0 then 256 else c.length, timer := c.period, pos := 0 }

/-- `Trigger(4)` (R400). -/
def Noise.trigger (c : Noise) : Noise :=
  { c with
    enabled := dacOn c.nr2, length := if c.length = 0 then 64 else c.length, timer := c.period,
    envTimer := envReload c.nr2, volume := c.nr2.extractLsb' 4 4, lfsr := 0x7FFF }

namespace Apu

/-- `Trigger(1)`: the square channel, then the sweep and its overflow check (R400). -/
def trigger1 (a : Apu) : Apu :=
  let a :=
    { a with
      ch1 := a.ch1.trigger
      sweep :=
        { a.sweep with
          shadow := a.ch1.freq
          timer := if a.sweepInterval ≠ 0 then a.sweepInterval else 8
          enabled := decide (a.sweepInterval ≠ 0 ∨ a.sweepShift ≠ 0) } }
  if a.sweepShift ≠ 0 then a.sweepCheck else a

end Apu

/-! Register writes of the channels while the power is on (R421). -/

/-- NRk1: duty and length load (R401, R421). -/
def Square.writeNr1 (c : Square) (v : Byte) : Square :=
  { c with duty := v.extractLsb' 6 2, length := 64 - (v.extractLsb' 0 6).toNat }

/-- NRk2 (R399, R421). -/
def Square.writeNr2 (c : Square) (v : Byte) : Square := { c with nr2 := v, enabled := c.enabled && dacOn v }

/-- NRk3: the low byte of the frequency. -/
def Square.writeNr3 (c : Square) (v : Byte) : Square := { c with freq := c.freq.extractLsb' 8 3 ++ v }

/-- NRk4 without its trigger bit: the high bits of the frequency and the length enable. -/
def Square.writeNr4 (c : Square) (v : Byte) : Square :=
  { c with freq := v.extractLsb' 0 3 ++ c.freq.extractLsb' 0 8, lenEn := v.getLsbD 6 }

/-- NR33. -/
def Wave.writeNr3 (c : Wave) (v : Byte) : Wave := { c with freq := c.freq.extractLsb' 8 3 ++ v }

/-- NR34 without its trigger bit. -/
def Wave.writeNr4 (c : Wave) (v : Byte) : Wave :=
  { c with freq := v.extractLsb' 0 3 ++ c.freq.extractLsb' 0 8, lenEn := v.getLsbD 6 }

/-- NR42 (R399, R421). -/
def Noise.writeNr2 (c : Noise) (v : Byte) : Noise := { c with nr2 := v, enabled := c.enabled && dacOn v }

/-- The registers NR10 to NR51. -/
inductive ApuReg where
  | nr10 | nr11 | nr12 | nr13 | nr14
  | nr21 | nr22 | nr23 | nr24
  | nr30 | nr31 | nr32 | nr33 | nr34
  | nr41 | nr42 | nr43 | nr44
  | nr50 | nr51
  deriving DecidableEq, Repr

namespace Apu

/-- A write of NR10 to NR51 while the power is on (R421, R422). -/
def writeOn (a : Apu) (r : ApuReg) (v : Byte) : Apu :=
  match r with
  | .nr10 => { a with sweep := { a.sweep with nr10 := v.extractLsb' 0 7 } }
  | .nr11 => { a with ch1 := a.ch1.writeNr1 v }
  | .nr12 => { a with ch1 := a.ch1.writeNr2 v }
  | .nr13 => { a with ch1 := a.ch1.writeNr3 v }
  | .nr14 =>
    let a := { a with ch1 := a.ch1.writeNr4 v }
    if v.getLsbD 7 then a.trigger1 else a
  | .nr21 => { a with ch2 := a.ch2.writeNr1 v }
  | .nr22 => { a with ch2 := a.ch2.writeNr2 v }
  | .nr23 => { a with ch2 := a.ch2.writeNr3 v }
  | .nr24 =>
    let c := a.ch2.writeNr4 v
    { a with ch2 := if v.getLsbD 7 then c.trigger else c }
  | .nr30 => { a with ch3 := { a.ch3 with dac := v.getLsbD 7, enabled := a.ch3.enabled && v.getLsbD 7 } }
  | .nr31 => { a with ch3 := { a.ch3 with length := 256 - v.toNat } }
  | .nr32 => { a with ch3 := { a.ch3 with level := v.extractLsb' 5 2 } }
  | .nr33 => { a with ch3 := a.ch3.writeNr3 v }
  | .nr34 =>
    let c := a.ch3.writeNr4 v
    { a with ch3 := if v.getLsbD 7 then c.trigger else c }
  | .nr41 => { a with ch4 := { a.ch4 with length := 64 - (v.extractLsb' 0 6).toNat } }
  | .nr42 => { a with ch4 := a.ch4.writeNr2 v }
  | .nr43 => { a with ch4 := { a.ch4 with nr3 := v } }
  | .nr44 =>
    let c := { a.ch4 with lenEn := v.getLsbD 6 }
    { a with ch4 := if v.getLsbD 7 then c.trigger else c }
  | .nr50 => { a with nr50 := v }
  | .nr51 => { a with nr51 := v }

/-- A write of NR10 to NR51 while the power is off: length loads only (R423). -/
def writeOff (a : Apu) (r : ApuReg) (v : Byte) : Apu :=
  match r with
  | .nr11 => { a with ch1 := { a.ch1 with length := 64 - (v.extractLsb' 0 6).toNat } }
  | .nr21 => { a with ch2 := { a.ch2 with length := 64 - (v.extractLsb' 0 6).toNat } }
  | .nr31 => { a with ch3 := { a.ch3 with length := 256 - v.toNat } }
  | .nr41 => { a with ch4 := { a.ch4 with length := 64 - (v.extractLsb' 0 6).toNat } }
  | .nr10 | .nr12 | .nr13 | .nr14 | .nr22 | .nr23 | .nr24 | .nr30 | .nr32 | .nr33 | .nr34 | .nr42 | .nr43 | .nr44
  | .nr50 | .nr51 => a

/-- A write of NR10 to NR51 after the catch-up (R421 to R423). -/
def write (a : Apu) (r : ApuReg) (v : Byte) : Apu := if a.power then a.writeOn r v else a.writeOff r v

end Apu

/-- Power-off of a square channel: its length counter is kept, and so are its timer and duty step (R422). -/
def Square.powerOff (c : Square) : Square :=
  { c with enabled := false, lenEn := false, freq := 0, volume := 0, envTimer := 0, duty := 0, nr2 := 0 }

/-- Power-off of the wave channel (R422). -/
def Wave.powerOff (c : Wave) : Wave := { c with enabled := false, lenEn := false, freq := 0, dac := false, level := 0 }

/-- Power-off of the noise channel (R422). -/
def Noise.powerOff (c : Noise) : Noise :=
  { c with enabled := false, lenEn := false, volume := 0, envTimer := 0, nr2 := 0, nr3 := 0 }

namespace Apu

/-- Power off (R422). -/
def powerOff (a : Apu) : Apu :=
  { a with
    power := false, ch1 := a.ch1.powerOff, ch2 := a.ch2.powerOff, ch3 := a.ch3.powerOff, ch4 := a.ch4.powerOff
    sweep := { shadow := 0, timer := 0, enabled := false, nr10 := 0 }, nr50 := 0, nr51 := 0 }

/-- Power on (R422). -/
def powerOn (a : Apu) : Apu :=
  { a with
    power := true, fsStep := 0
    ch1 := { a.ch1 with dutyStep := 0, timer := a.ch1.period }
    ch2 := { a.ch2 with dutyStep := 0, timer := a.ch2.period }
    ch3 := { a.ch3 with pos := 0, sample := 0, timer := a.ch3.period }
    ch4 := { a.ch4 with timer := a.ch4.period } }

/-- A write of NR52 after the catch-up: only bit 7 matters (R422). -/
def writeNr52 (a : Apu) (v : Byte) : Apu :=
  match a.power, v.getLsbD 7 with
  | true, false => a.powerOff
  | false, true => a.powerOn
  | true, true => a
  | false, false => a

/-- A read of NR10 to NR51, `stored | mask` (R57, R425). -/
def readReg (a : Apu) (r : ApuReg) : Byte :=
  match r with
  | .nr10 => 0x80 ||| a.sweep.nr10.zeroExtend 8
  | .nr11 => a.ch1.duty ++ (0x3F : BitVec 6)
  | .nr12 => a.ch1.nr2
  | .nr13 => 0xFF
  | .nr14 => (1 : BitVec 1) ++ BitVec.ofBool a.ch1.lenEn ++ (0x3F : BitVec 6)
  | .nr21 => a.ch2.duty ++ (0x3F : BitVec 6)
  | .nr22 => a.ch2.nr2
  | .nr23 => 0xFF
  | .nr24 => (1 : BitVec 1) ++ BitVec.ofBool a.ch2.lenEn ++ (0x3F : BitVec 6)
  | .nr30 => BitVec.ofBool a.ch3.dac ++ (0x7F : BitVec 7)
  | .nr31 => 0xFF
  | .nr32 => (1 : BitVec 1) ++ a.ch3.level ++ (0x1F : BitVec 5)
  | .nr33 => 0xFF
  | .nr34 => (1 : BitVec 1) ++ BitVec.ofBool a.ch3.lenEn ++ (0x3F : BitVec 6)
  | .nr41 => 0xFF
  | .nr42 => a.ch4.nr2
  | .nr43 => a.ch4.nr3
  | .nr44 => (1 : BitVec 1) ++ BitVec.ofBool a.ch4.lenEn ++ (0x3F : BitVec 6)
  | .nr50 => a.nr50
  | .nr51 => a.nr51

/-- A read of NR52 (R422). -/
def readNr52 (a : Apu) : Byte :=
  BitVec.ofBool a.power ++ (0x7 : BitVec 3) ++ BitVec.ofBool a.ch4.enabled ++ BitVec.ofBool a.ch3.enabled ++
    BitVec.ofBool a.ch2.enabled ++ BitVec.ofBool a.ch1.enabled

end Apu

/-! Amplitudes and the mixer (R387, R388, R394, R397, R418). -/

/-- `DUTY_TABLE[duty][step]` (R388). -/
def dutyTable (duty : BitVec 2) (step : BitVec 3) : Bool :=
  let row : List Bool :=
    match duty.toNat with
    | 0 => [false, false, false, false, false, false, false, true]
    | 1 => [true, false, false, false, false, false, false, true]
    | 2 => [true, false, false, false, false, true, true, true]
    | _ => [false, true, true, true, true, true, true, false]
  row.getD step.toNat false

/-- `amp(k)`, k = 1, 2 (R387). -/
def Square.amp (c : Square) : Nat := if c.enabled && dutyTable c.duty c.dutyStep then c.volume.toNat else 0

/-- `amp(3)` (R394). -/
def Wave.amp (c : Wave) : Nat :=
  let sh := match c.level.toNat with
    | 0 => 4
    | 1 => 0
    | 2 => 1
    | _ => 2
  if c.enabled then c.sample.toNat >>> sh else 0

/-- `amp(4)` (R397). -/
def Noise.amp (c : Noise) : Nat := if c.enabled && !c.lfsr.getLsbD 0 then c.volume.toNat else 0

namespace Apu

/-- One side of `Mix()` before scaling, with the four bits of NR51 that start at `base` (R418). -/
def mixSide (a : Apu) (base : Nat) : Nat :=
  (if a.nr51.getLsbD base then a.ch1.amp else 0) + (if a.nr51.getLsbD (base + 1) then a.ch2.amp else 0) +
  (if a.nr51.getLsbD (base + 2) then a.ch3.amp else 0) + (if a.nr51.getLsbD (base + 3) then a.ch4.amp else 0)

/-- `Mix()`: the pair (left, right) (R418). -/
def mix (a : Apu) : Nat × Nat :=
  if a.power then
    (a.mixSide 4 * ((a.nr50.extractLsb' 4 3).toNat + 1), a.mixSide 0 * ((a.nr50.extractLsb' 0 3).toNat + 1))
  else (0, 0)

end Apu

end Sys2Proof.Machine
end

