-- ==== Sys2Proof/Machine/IoMap.lean ====
section
/-! DEFINITION. The address decoder: which device owns an address (R87, R88, R91, R92). -/

namespace Sys2Proof.Machine

/-- The I/O registers of R92. -/
inductive IoReg where
  | joyp | sb | sc
  | div | tima | tma | tac
  | ifl
  | nr10 | nr11 | nr12 | nr13 | nr14
  | nr21 | nr22 | nr23 | nr24
  | nr30 | nr31 | nr32 | nr33 | nr34
  | nr41 | nr42 | nr43 | nr44
  | nr50 | nr51 | nr52
  | wave (i : Nat)
  | lcdc | stat | scy | scx | ly | lyc | dma | bgp | obp0 | obp1 | wy | wx
  | key1 | vbk | bootOff
  | hdma1 | hdma2 | hdma3 | hdma4 | hdma5
  | bcps | bcpd | ocps | ocpd
  | svbk
  deriving DecidableEq, Repr

/-- The registers that exist on the CGB only (R92, column "variant"). -/
def IoReg.cgbOnly : IoReg → Bool
  | .key1 | .vbk | .hdma1 | .hdma2 | .hdma3 | .hdma4 | .hdma5 | .bcps | .bcpd | .ocps | .ocpd | .svbk => true
  | .joyp | .sb | .sc | .div | .tima | .tma | .tac | .ifl | .nr10 | .nr11 | .nr12 | .nr13 | .nr14 | .nr21 | .nr22 | .nr23
  | .nr24 | .nr30 | .nr31 | .nr32 | .nr33 | .nr34 | .nr41 | .nr42 | .nr43 | .nr44 | .nr50 | .nr51 | .nr52 | .wave _
  | .lcdc | .stat | .scy | .scx | .ly | .lyc | .dma | .bgp | .obp0 | .obp1 | .wy | .wx | .bootOff => false

/-- The register at 0xFF00 + `off` on any variant (R92); `none` is unmapped (R91). -/
def IoReg.ofOffset (off : Nat) : Option IoReg :=
  match off with
  | 0x00 => some .joyp
  | 0x01 => some .sb
  | 0x02 => some .sc
  | 0x04 => some .div
  | 0x05 => some .tima
  | 0x06 => some .tma
  | 0x07 => some .tac
  | 0x0F => some .ifl
  | 0x10 => some .nr10
  | 0x11 => some .nr11
  | 0x12 => some .nr12
  | 0x13 => some .nr13
  | 0x14 => some .nr14
  | 0x16 => some .nr21
  | 0x17 => some .nr22
  | 0x18 => some .nr23
  | 0x19 => some .nr24
  | 0x1A => some .nr30
  | 0x1B => some .nr31
  | 0x1C => some .nr32
  | 0x1D => some .nr33
  | 0x1E => some .nr34
  | 0x20 => some .nr41
  | 0x21 => some .nr42
  | 0x22 => some .nr43
  | 0x23 => some .nr44
  | 0x24 => some .nr50
  | 0x25 => some .nr51
  | 0x26 => some .nr52
  | 0x40 => some .lcdc
  | 0x41 => some .stat
  | 0x42 => some .scy
  | 0x43 => some .scx
  | 0x44 => some .ly
  | 0x45 => some .lyc
  | 0x46 => some .dma
  | 0x47 => some .bgp
  | 0x48 => some .obp0
  | 0x49 => some .obp1
  | 0x4A => some .wy
  | 0x4B => some .wx
  | 0x4D => some .key1
  | 0x4F => some .vbk
  | 0x50 => some .bootOff
  | 0x51 => some .hdma1
  | 0x52 => some .hdma2
  | 0x53 => some .hdma3
  | 0x54 => some .hdma4
  | 0x55 => some .hdma5
  | 0x68 => some .bcps
  | 0x69 => some .bcpd
  | 0x6A => some .ocps
  | 0x6B => some .ocpd
  | 0x70 => some .svbk
  | off => if off / 16 = 3 then some (.wave (off % 16)) else none

/-- The register at 0xFF00 + `off` on a given variant: CGB registers are unmapped on DMG (R91). -/
def IoReg.decode (model : Model) (off : Nat) : Option IoReg :=
  match IoReg.ofOffset off with
  | some r => if r.cgbOnly && decide (model = .dmg) then none else some r
  | none => none

/-- The rows of the decode table R87, with the place inside the owner. -/
inductive Region where
  /-- the boot overlay, offset into `BOOTROM` -/
  | boot (off : Nat)
  /-- a cartridge window, by CPU address -/
  | cart (addr : Nat)
  /-- VRAM, key `8192 * bank + offset` -/
  | vram (key : Nat)
  /-- WRAM, key `4096 * bank + offset`, the echo included -/
  | wram (key : Nat)
  | oam (i : Nat)
  /-- an I/O register -/
  | io (r : IoReg)
  /-- 0xFEA0 to 0xFEFF and every I/O address without a register (R91) -/
  | unmapped
  | hram (i : Nat)
  | ie
  deriving DecidableEq, Repr

/-- The boot overlay covers an address: below the image's length and not 0x0100 to 0x01FF (R88). -/
def bootCovers (rom : Option (List Byte)) (mapped : Bool) (a : Nat) : Bool :=
  match rom with
  | some rom => mapped && decide (a < rom.length) && decide (a / 256 ≠ 1)
  | none => false

/-- The WRAM bank of 0xD000 to 0xDFFF: 1 on DMG, `max(1, svbk)` on CGB (R39, R87). -/
def wramBank (model : Model) (svbk : BitVec 3) : Nat :=
  match model with
  | .dmg => 1
  | .cgb => max 1 svbk.toNat

/-- The I/O register or the unmapped address at 0xFF00 + `off` (R91, R92). -/
def ioRegion (model : Model) (off : Nat) : Region :=
  match IoReg.decode model off with
  | some r => .io r
  | none => .unmapped

/-- Rows 2 to 4 of the decode table, 0x0000 to 0xBFFF (R87). The bounds of rows 2 to 6 are multiples of 4096, those of rows 7
to 9 of 256, and every window is aligned to its size: bounds are written on the quotient, and the offset `addr - base` of the
table as a remainder. -/
def lowRegion (vbk : BitVec 1) (a : Nat) : Region :=
  if a / 4096 < 0x8 then .cart a
  else if a / 4096 < 0xA then .vram (8192 * vbk.toNat + a % 8192)
  else .cart a

/-- Rows 5 to 7, 0xC000 to 0xFDFF: bank 0, bank D, and the echo of both (R87). -/
def workRegion (bank a : Nat) : Region :=
  if a / 4096 = 0xC ∨ a / 4096 = 0xE then .wram (a % 4096) else .wram (4096 * bank + a % 4096)

/-- Rows 8 to 12, 0xFE00 to 0xFFFF (R87). -/
def highRegion (model : Model) (a : Nat) : Region :=
  if a / 256 < 0xFF then (if a % 256 < 0xA0 then .oam (a % 256) else .unmapped)
  else if a % 256 < 0x80 then ioRegion model (a % 256)
  else if a % 256 < 0xFF then .hram (a % 128)
  else .ie

/-- The decode table, first match wins (R87). -/
def regionAt (cfg : Config) (vbk : BitVec 1) (svbk : BitVec 3) (bootMapped : Bool) (a : Nat) : Region :=
  if bootCovers cfg.bootRom bootMapped a then .boot a
  else if a / 4096 < 0xC then lowRegion vbk a
  else if a / 256 < 0xFE then workRegion (wramBank cfg.model svbk) a
  else highRegion cfg.model a

/-- The device an address decodes to now. -/
def State.region (s : State) (addr : Word) : Region :=
  regionAt s.cfg s.mems.vbk s.mems.svbk s.mems.bootMapped addr.toNat

end Sys2Proof.Machine
end

