-- ==== Sys2Proof/Machine/Sched.lean ====
section
/-! DEFINITION. The scheduler's operations (R170 to R178), the fault register (R34) and `RequestInterrupt` (R483). `Commit` needs
the callbacks and stands in Machine/Commit.lean. -/

namespace Sys2Proof.Machine

namespace State

/-- `now` (R172). -/
def now (s : State) : Nat := s.sched.cycle + s.sched.staged

/-- Record a fatal error; the first one stays until `Reset` (R34, R496). -/
def raiseFault (s : State) (f : Fault) : State :=
  match s.fault with
  | some _ => s
  | none => { s with fault := some f }

/-- Replace the pending queue. -/
def setQueue (s : State) (q : List (Handle × Int)) : State := { s with sched := { s.sched with queue := q } }

/-- Whether a handle is pending (R171). -/
def isPending (s : State) (h : Handle) : Bool := isQueued h s.sched.queue

/-- `Schedule(ev, d)`: due at `now + d`; scheduling a pending handle is `FatalSchedulerMisuse` (R173, R174). -/
def schedule (s : State) (h : Handle) (d : Int) : State :=
  if s.isPending h then s.raiseFault (.schedulerMisuse (some h))
  else s.setQueue (enqueue h ((s.now : Int) + d) s.sched.queue)

/-- `Cancel(ev)` (R175). -/
def cancel (s : State) (h : Handle) : State := s.setQueue (dequeue h s.sched.queue)

/-- `Advance(n)` (R177). -/
def advance (s : State) (n : Nat) : State := { s with sched := { s.sched with staged := s.sched.staged + n } }

/-- `UntilNextEvent()`: `max(0, head.due - now)`; `none` for an empty queue, where the spec has `FatalSchedulerMisuse` (R178). -/
def untilNextEvent (s : State) : Option Nat :=
  match s.sched.queue with
  | [] => none
  | (_, due) :: _ => some (due - (s.now : Int)).toNat

/-- `RequestInterrupt(i)`: set pending flag `i` (R483). -/
def requestInterrupt (s : State) (i : Nat) : State :=
  { s with irq := { s.irq with pending := s.irq.pending ||| ((1 : BitVec 5) <<< i) } }

/-- `MC`: master cycles per machine cycle (R8, R204). -/
def mc (s : State) : Nat := if s.cpu.speed then 2 else 4

/-- `mcycles(n)`: charge `n` machine cycles at the speed in force (R196). -/
def charge (s : State) (n : Nat) : State := s.advance (n * s.mc)

end State

end Sys2Proof.Machine
end

