-- ==== Sys2Proof/Machine/Ppu.lean ====
section
/-! DEFINITION. The PPU's registers and line state machine but for rendering and the event itself (46_ppu.md): the STAT
interrupt line, display off and on, the OAM scan, and the register writes with side effects. -/

namespace Sys2Proof.Machine

/-- `LINE_CYCLES` (R8, R320). -/
def lineCycles : Nat := 456
/-- `FRAME_CYCLES` (R8, R320). -/
def frameCycles : Nat := 70224
/-- `M2_CYCLES` (R8, R320). -/
def m2Cycles : Nat := 80
/-- `M3_BASE` (R8, R320). -/
def m3Base : Nat := 172
/-- `SPRITES_PER_LINE` (R8, R339). -/
def spritesPerLine : Nat := 10

/-- LCDC[7]: the display is on (R45). -/
def Ppu.on (p : Ppu) : Bool := p.lcdc.getLsbD 7

/-- The composite STAT condition, the OR of the four enabled sources (R333). -/
def Ppu.statLevel (p : Ppu) : Bool :=
  (p.statEn.getLsbD 0 && decide (p.mode = .hblank)) || (p.statEn.getLsbD 1 && decide (p.mode = .vblank)) ||
  (p.statEn.getLsbD 2 && decide (p.mode = .oamScan)) || (p.statEn.getLsbD 3 && decide (p.ly = p.lyc))

/-- What a read of STAT returns (R46): bit 7 reads 1, the match flag only while the display is on. -/
def Ppu.readStat (p : Ppu) : Byte :=
  (1 : BitVec 1) ++ p.statEn ++ BitVec.ofBool (p.on && decide (p.ly = p.lyc)) ++ p.mode.bits

/-- Sprite height by LCDC[2] (R339, R347). -/
def Ppu.spriteHeight (p : Ppu) : Nat := if p.lcdc.getLsbD 2 then 16 else 8

/-- The blank colour under given parameters (R336). -/
def blankOf (cfg : Config) : Rgba :=
  match cfg.model with
  | .dmg => cfg.dmgShades[0]
  | .cgb => 0xFFFFFFFF

namespace State

/-- Replace the PPU. -/
def setPpu (s : State) (p : Ppu) : State := { s with ppu := p }

/-- The blank colour (R336). -/
def blankColour (s : State) : Rgba := blankOf s.cfg

/-- `StatUpdate()`: request the STAT interrupt on a rise of the composite condition only (R333). -/
def statUpdate (s : State) : State :=
  if s.ppu.on then
    let lvl := s.ppu.statLevel
    let s' := s.setPpu { s.ppu with statPrev := lvl }
    if lvl && !s.ppu.statPrev then s'.requestInterrupt 1 else s'
  else s.setPpu { s.ppu with statPrev := false }

/-- Display off (R335). -/
def displayOff (s : State) : State :=
  let s := s.cancel .ppu
  let s := s.setPpu
    { s.ppu with
      ly := 0, mode := .hblank, phase := .off, lineStart := (s.now : Int), statPrev := false, windowLine := 0, scan := [],
      m3Extra := 0, fb := [] }
  s.schedule .ppu frameCycles

/-- Display on (R337). -/
def displayOn (s : State) : State :=
  let s := s.cancel .ppu
  let s := s.setPpu
    { s.ppu with
      ly := 0, lineStart := (s.now : Int), phase := .m2, mode := .oamScan, windowLine := 0, skipFrame := true }
  s.statUpdate.schedule .ppu m2Cycles

/-- A write of LCDC (R352). -/
def writeLcdc (s : State) (v : Byte) : State :=
  let s' := s.setPpu { s.ppu with lcdc := v }
  match s.ppu.on, v.getLsbD 7 with
  | true, false => s'.displayOff
  | false, true => s'.displayOn
  | _, _ => s'

/-- A write of STAT stores bits 6:3 and re-evaluates the STAT line (R353). -/
def writeStat (s : State) (v : Byte) : State := (s.setPpu { s.ppu with statEn := v.extractLsb' 3 4 }).statUpdate

/-- A write of LYC re-evaluates the STAT line (R354). -/
def writeLyc (s : State) (v : Byte) : State := (s.setPpu { s.ppu with lyc := v }).statUpdate

/-- The test of the OAM scan and the sprite layer: entry `i` covers line `ly` (R339, R347). -/
def spriteOnLine (s : State) (ly i : Nat) : Bool :=
  let y := (s.mems.oam.read (4 * i)).toNat
  decide (y ≤ ly + 16) && decide (ly + 16 < y + s.ppu.spriteHeight)

/-- `OamScan(ly)`: the first 10 entries, by index, that cover the line (R339). -/
def oamScan (s : State) (ly : Nat) : List Nat := ((List.range 40).filter (s.spriteOnLine ly)).take spritesPerLine

/-- `M3_EXTRA(n)` (R322). -/
def m3ExtraOf (s : State) (n : Nat) : Nat := s.cfg.m3Extra.toList.getD n 0

end State

end Sys2Proof.Machine
end

