-- ==== Sys2Proof/Machine/Timer.lean ====
section
/-! DEFINITION. The timer (48_timer.md): the free-running counter, DIV, and the two timer events. -/

namespace Sys2Proof.Machine

/-- `TIMA_PERIOD` by clock select TAC[1:0] (R70, R432). -/
def timaPeriod (tac : BitVec 3) : Nat :=
  match (tac.extractLsb' 0 2).toNat with
  | 0 => 1024
  | 1 => 16
  | 2 => 64
  | _ => 256

/-- `TIMA_RELOAD_DELAY` (R8, R436). -/
def timaReloadDelay : Int := 4

/-- TAC's enable bit, bit 2 (R70). -/
def tacEnabled (tac : BitVec 3) : Bool := tac.getLsbD 2

namespace State

/-- The internal counter, `(now - div_zero) mod 65536` (R68, R430). -/
def counter (s : State) : Word := BitVec.ofInt 16 ((s.now : Int) - s.timer.divZero)

/-- DIV reads bits 15:8 of the counter (R431). -/
def readDiv (s : State) : Byte := Word.hi s.counter

/-- TAC reads `0xF8 | stored` (R70). -/
def readTac (s : State) : Byte := 0xF8 ||| s.timer.tac.zeroExtend 8

/-- Replace the timer's registers. -/
def setTimer (s : State) (t : Timer) : State := { s with timer := t }

/-- A write of DIV resets the counter and re-arms the increment one period ahead (R439). -/
def writeDiv (s : State) : State :=
  let s := (s.setTimer { s.timer with divZero := (s.now : Int) }).cancel .timerInc
  if tacEnabled s.timer.tac then s.schedule .timerInc (timaPeriod s.timer.tac) else s

/-- A write of TAC re-arms or cancels the timer events (R440). -/
def writeTac (s : State) (v : Byte) : State :=
  let s := (s.setTimer { s.timer with tac := v.extractLsb' 0 3 }).cancel .timerInc
  if tacEnabled s.timer.tac then
    let p := timaPeriod s.timer.tac
    s.schedule .timerInc (p - s.counter.toNat % p : Nat)
  else s.cancel .timerReload

/-- `EV_TIMER_INC` (R436). -/
def timerIncEvent (s : State) (late : Int) : State :=
  let tima := s.timer.tima + 1
  let s := s.setTimer { s.timer with tima := tima }
  let s := if tima = 0 then (s.cancel .timerReload).schedule .timerReload (timaReloadDelay - late) else s
  s.schedule .timerInc (timaPeriod s.timer.tac - late)

/-- `EV_TIMER_RELOAD` (R437). -/
def timerReloadEvent (s : State) : State :=
  (s.setTimer { s.timer with tima := s.timer.tma }).requestInterrupt 2

end State

end Sys2Proof.Machine
end

