-- ==== Sys2Proof/Machine/BusRead.lean ====
section
/-! DEFINITION. Reads of the address space by the CPU and by the DMA engines (R84, R86, R89, R91 to R93). No read changes the
state: the catch-up a read of the APU makes is not observable (R425, log 11). -/

namespace Sys2Proof.Machine

/-- `BLOCKED_FILL` (R8, R89). -/
def blockedFill : Byte := 0xFF

/-- `UNMAPPED_FILL` (R8, R91). -/
def unmappedFill : Byte := 0xFF

/-- What a read of HDMA5 returns (R467). -/
def Dma.readHdma5 (d : Dma) : Byte :=
  if d.complete then 0xFF
  else BitVec.ofBool (!d.active) ++ (BitVec.ofNat 7 (d.remaining / 16) - 1)

/-- What a read of BCPS or OCPS returns (R41). -/
def PalIndex.read (p : PalIndex) : Byte := BitVec.ofBool p.inc ++ (1 : BitVec 1) ++ p.index

/-- An address at which the cartridge shows its ROM image as it is: the ROM window of one without a bank controller
(95_test_vectors.md, conventions). -/
def Cart.showsRom (c : Cart) (k : Nat) : Bool := decide (c.kind = .plain) && decide (k < 0x8000) && decide (k < c.romSize)

/-- `CART.Read(addr)` (R112). -/
def Cart.read (c : Cart) (k : Nat) : Byte :=
  if c.showsRom k then c.rom.read k else Collab.cartRead c.rom c.hidden (BitVec.ofNat 16 k)

namespace State

/-- What a read of KEY1 returns (R33). -/
def readKey1 (s : State) : Byte := BitVec.ofBool s.cpu.speed ++ (0x3F : BitVec 6) ++ BitVec.ofBool s.cpu.speedArmed

/-- What a read of IF returns (R35). -/
def readIf (s : State) : Byte := 0xE0 ||| s.irq.pending.zeroExtend 8

/-- What a read of IE returns (R36). -/
def readIe (s : State) : Byte := s.irq.enable.zeroExtend 8

/-- A read of an I/O register (R92, each at the rule the table names). -/
def ioRead (s : State) (r : IoReg) : Byte :=
  match r with
  | .joyp => s.joypad.shown
  | .sb => s.serial.sb
  | .sc => s.serial.sc
  | .div => s.readDiv
  | .tima => s.timer.tima
  | .tma => s.timer.tma
  | .tac => s.readTac
  | .ifl => s.readIf
  | .nr10 => s.apu.readReg .nr10
  | .nr11 => s.apu.readReg .nr11
  | .nr12 => s.apu.readReg .nr12
  | .nr13 => s.apu.readReg .nr13
  | .nr14 => s.apu.readReg .nr14
  | .nr21 => s.apu.readReg .nr21
  | .nr22 => s.apu.readReg .nr22
  | .nr23 => s.apu.readReg .nr23
  | .nr24 => s.apu.readReg .nr24
  | .nr30 => s.apu.readReg .nr30
  | .nr31 => s.apu.readReg .nr31
  | .nr32 => s.apu.readReg .nr32
  | .nr33 => s.apu.readReg .nr33
  | .nr34 => s.apu.readReg .nr34
  | .nr41 => s.apu.readReg .nr41
  | .nr42 => s.apu.readReg .nr42
  | .nr43 => s.apu.readReg .nr43
  | .nr44 => s.apu.readReg .nr44
  | .nr50 => s.apu.readReg .nr50
  | .nr51 => s.apu.readReg .nr51
  | .nr52 => s.apu.readNr52
  | .wave i => s.mems.wave.read i
  | .lcdc => s.ppu.lcdc
  | .stat => s.ppu.readStat
  | .scy => s.ppu.scy
  | .scx => s.ppu.scx
  | .ly => s.ppu.ly
  | .lyc => s.ppu.lyc
  | .dma => s.dma.page
  | .bgp => s.ppu.bgp
  | .obp0 => s.ppu.obp0
  | .obp1 => s.ppu.obp1
  | .wy => s.ppu.wy
  | .wx => s.ppu.wx
  | .key1 => s.readKey1
  | .vbk => (0x7F : BitVec 7) ++ s.mems.vbk
  | .bootOff => unmappedFill
  | .hdma1 => unmappedFill
  | .hdma2 => unmappedFill
  | .hdma3 => unmappedFill
  | .hdma4 => unmappedFill
  | .hdma5 => s.dma.readHdma5
  | .bcps => s.ppu.bcps.read
  | .bcpd => s.mems.bgPal.read s.ppu.bcps.index.toNat
  | .ocps => s.ppu.ocps.read
  | .ocpd => s.mems.objPal.read s.ppu.ocps.index.toNat
  | .svbk => (0x1F : BitVec 5) ++ s.mems.svbk

/-- VRAM and OAM are blocked for the CPU: display on and Mode 3 (R89). -/
def cpuBlocked (s : State) : Bool := s.ppu.on && decide (s.ppu.mode = .transfer)

/-- A read of a decoded place, VRAM and OAM blocked or not (R87). -/
def regionRead (s : State) (blocked : Bool) (r : Region) : Byte :=
  match r with
  | .boot off => (s.cfg.bootRom.getD []).getD off 0
  | .cart a => s.cart.read a
  | .vram k => if blocked then blockedFill else s.mems.vram.read k
  | .wram k => s.mems.wram.read k
  | .oam i => if blocked then blockedFill else s.mems.oam.read i
  | .io r => s.ioRead r
  | .unmapped => unmappedFill
  | .hram i => s.mems.hram.read i
  | .ie => s.readIe

/-- `BusRead(addr)`, the CPU's byte read (R84). -/
def busRead (s : State) (a : Word) : Byte := s.regionRead s.cpuBlocked (s.region a)

/-- `DmaRead(addr)`: never blocked (R86). -/
def dmaRead (s : State) (a : Word) : Byte := s.regionRead false (s.region a)

end State

end Sys2Proof.Machine
end

