-- ==== Sys2Proof/Machine/Dma.lean ====
section
/-! DEFINITION. The DMA engines (49_dma.md). -/

namespace Sys2Proof.Machine

/-- `OAM_DMA_LEN` (R8, R450). -/
def oamDmaLen : Nat := 160

/-- `HDMA_BLOCK` (R8, R466). -/
def hdmaBlock : Nat := 16

/-- `SrcLatch` (R460). -/
def Dma.srcLatch (d : Dma) : Word := Word.ofBytes d.hdma1 d.hdma2 &&& 0xFFF0

/-- `DstLatch` (R460). -/
def Dma.dstLatch (d : Dma) : Word := 0x8000 ||| (Word.ofBytes d.hdma3 d.hdma4 &&& 0x1FF0)

namespace State

/-- Replace the DMA engines' registers. -/
def setDma (s : State) (d : Dma) : State := { s with dma := d }

/-- Replace the memories. -/
def setMems (s : State) (m : Mems) : State := { s with mems := m }

/-- A write of DMA (0xFF46) (R451). -/
def writeDma (s : State) (v : Byte) : State :=
  ((s.setDma { s.dma with page := v }).cancel .oamDma).schedule .oamDma s.cfg.oamDmaDelay

/-- The source address of byte `i` of an OAM DMA, pages 0xE0 to 0xFF folded to work RAM (R453). -/
def oamDmaSource (s : State) (i : Nat) : Word :=
  let a := Word.ofBytes s.dma.page (BitVec.ofNat 8 i)
  if s.dma.page < 0xE0 then a else a - 0x2000

/-- `EV_OAM_DMA`: 160 bytes, read as memory is when it runs, written in one step (R453). -/
def oamDmaEvent (s : State) : State :=
  s.setMems
    { s.mems with
      oam := (List.range oamDmaLen).foldl (fun m i => m.write i (s.dmaRead (s.oamDmaSource i))) s.mems.oam }

/-- `VdmaCopyByte()` (R464). -/
def vdmaCopyByte (s : State) : State :=
  let key := 8192 * s.mems.vbk.toNat + (s.dma.dst - 0x8000).toNat % 8192
  let s' := s.setMems { s.mems with vram := s.mems.vram.write key (s.dmaRead s.dma.src) }
  s'.setDma
    { s.dma with
      src := s.dma.src + 1
      dst := 0x8000 + ((s.dma.dst + 1 - 0x8000).extractLsb' 0 13).zeroExtend 16
      remaining := s.dma.remaining - 1 }

/-- `VdmaCopyByte()` repeated. -/
def vdmaCopyBytes : Nat → State → State
  | 0, s => s
  | n + 1, s => vdmaCopyBytes n s.vdmaCopyByte

/-- `Gdma()`: the cycles first, then the whole copy (R462). -/
def gdma (s : State) : State :=
  let n := s.dma.remaining
  let s := vdmaCopyBytes n (s.advance (n * s.cfg.gdmaCyclesPerByte))
  s.setDma { s.dma with complete := true }

/-- A write of HDMA5 on CGB (R461). The byte is kept as well (R72, log 10). -/
def writeHdma5 (s : State) (v : Byte) : State :=
  let s := s.setDma { s.dma with hdma5 := v }
  if s.dma.active && !v.getLsbD 7 then s.setDma { s.dma with active := false }
  else
    let d :=
      { s.dma with
        src := s.dma.srcLatch, dst := s.dma.dstLatch, remaining := ((v.extractLsb' 0 7).toNat + 1) * 16
        complete := false }
    if v.getLsbD 7 then s.setDma { d with mode := .hblank, active := true }
    else (s.setDma { d with mode := .general, active := false }).gdma

/-- `HBlankDmaStep()` (R466). -/
def hblankDmaStep (s : State) : State :=
  if decide (s.cfg.model = .cgb) && s.dma.active then
    let s := vdmaCopyBytes hdmaBlock s
    if s.dma.remaining = 0 then s.setDma { s.dma with active := false, complete := true } else s
  else s

end State

end Sys2Proof.Machine
end

