-- ==== Sys2Proof/Machine/BusWrite.lean ====
section
/-! DEFINITION. Writes of the address space by the CPU (R85, R87, R91 to R93). -/

namespace Sys2Proof.Machine

/-- An address of which the cartridge drops writes: without a bank controller, the ROM window (95_test_vectors.md, conventions),
and the RAM window if there is no RAM (R495). -/
def Cart.drops (c : Cart) (k : Nat) : Bool :=
  decide (c.kind = .plain) && (decide (k < 0x8000) || decide (c.info.ramSize = 0))

namespace State

/-- `CART.Write(addr, v)` (R112): changes the cartridge's own state only. -/
def cartWrite (s : State) (a : Word) (v : Byte) : State :=
  if s.cart.drops a.toNat then s
  else { s with cart := { s.cart with hidden := Collab.cartWrite s.cart.rom s.cart.hidden a v } }

/-- `JOYPAD.Write(v)` (R114). -/
def joypadWrite (s : State) (v : Byte) : State :=
  let (shown, hidden) := Collab.joypadWrite s.joypad.shown s.joypad.hidden v
  { s with joypad := { shown := shown, hidden := hidden } }

/-- `SERIAL.Write(addr, v)`: SC if `sc`, else SB (R115). -/
def serialWrite (s : State) (sc : Bool) (v : Byte) : State :=
  let (b, c, hidden) := Collab.serialWrite s.serial.sb s.serial.sc s.serial.hidden sc v
  { s with serial := { sb := b, sc := c, hidden := hidden } }

/-- The APU caught up to `now` (R376). -/
def apuNow (s : State) : Apu := s.apu.catchUp s.mems.wave (s.now : Int)

/-- Replace the APU. -/
def setApu (s : State) (a : Apu) : State := { s with apu := a }

/-- A write of NR10 to NR51, the catch-up first (R376, R421 to R423). -/
def apuWrite (s : State) (r : ApuReg) (v : Byte) : State := s.setApu (s.apuNow.write r v)

/-- A write of NR52, the catch-up first (R376, R422). -/
def writeNr52 (s : State) (v : Byte) : State := s.setApu (s.apuNow.writeNr52 v)

/-- A write of the wave pattern, the catch-up first (R376, R424). -/
def writeWave (s : State) (i : Nat) (v : Byte) : State :=
  (s.setApu s.apuNow).setMems { s.mems with wave := s.mems.wave.write i v }

/-- A write of IF (R35). -/
def writeIf (s : State) (v : Byte) : State := { s with irq := { s.irq with pending := v.extractLsb' 0 5 } }

/-- A write of IE (R36). -/
def writeIe (s : State) (v : Byte) : State := { s with irq := { s.irq with enable := v.extractLsb' 0 5 } }

/-- A write of KEY1: bit 0 arms the speed switch (R33). -/
def writeKey1 (s : State) (v : Byte) : State := { s with cpu := { s.cpu with speedArmed := v.getLsbD 0 } }

/-- A write of 0xFF50: a nonzero value unmaps the boot ROM (R44). -/
def writeBootOff (s : State) (v : Byte) : State :=
  if v = 0 then s else s.setMems { s.mems with bootMapped := false }

end State

/-- A palette index after a data write (R362). -/
def PalIndex.next (p : PalIndex) : PalIndex := if p.inc then { p with index := p.index + 1 } else p

/-- A palette index register written (R362). -/
def PalIndex.ofByte (v : Byte) : PalIndex := { inc := v.getLsbD 7, index := v.extractLsb' 0 6 }

namespace State

/-- A write of BCPD (R362). -/
def writeBcpd (s : State) (v : Byte) : State :=
  (s.setMems { s.mems with bgPal := s.mems.bgPal.write s.ppu.bcps.index.toNat v }).setPpu
    { s.ppu with bcps := s.ppu.bcps.next }

/-- A write of OCPD (R362). -/
def writeOcpd (s : State) (v : Byte) : State :=
  (s.setMems { s.mems with objPal := s.mems.objPal.write s.ppu.ocps.index.toNat v }).setPpu
    { s.ppu with ocps := s.ppu.ocps.next }

/-- A write of an I/O register (R92, each at the rule the table names). -/
def ioWrite (s : State) (r : IoReg) (v : Byte) : State :=
  match r with
  | .joyp => s.joypadWrite v
  | .sb => s.serialWrite false v
  | .sc => s.serialWrite true v
  | .div => s.writeDiv
  | .tima => s.setTimer { s.timer with tima := v }
  | .tma => s.setTimer { s.timer with tma := v }
  | .tac => s.writeTac v
  | .ifl => s.writeIf v
  | .nr10 => s.apuWrite .nr10 v
  | .nr11 => s.apuWrite .nr11 v
  | .nr12 => s.apuWrite .nr12 v
  | .nr13 => s.apuWrite .nr13 v
  | .nr14 => s.apuWrite .nr14 v
  | .nr21 => s.apuWrite .nr21 v
  | .nr22 => s.apuWrite .nr22 v
  | .nr23 => s.apuWrite .nr23 v
  | .nr24 => s.apuWrite .nr24 v
  | .nr30 => s.apuWrite .nr30 v
  | .nr31 => s.apuWrite .nr31 v
  | .nr32 => s.apuWrite .nr32 v
  | .nr33 => s.apuWrite .nr33 v
  | .nr34 => s.apuWrite .nr34 v
  | .nr41 => s.apuWrite .nr41 v
  | .nr42 => s.apuWrite .nr42 v
  | .nr43 => s.apuWrite .nr43 v
  | .nr44 => s.apuWrite .nr44 v
  | .nr50 => s.apuWrite .nr50 v
  | .nr51 => s.apuWrite .nr51 v
  | .nr52 => s.writeNr52 v
  | .wave i => s.writeWave i v
  | .lcdc => s.writeLcdc v
  | .stat => s.writeStat v
  | .scy => s.setPpu { s.ppu with scy := v }
  | .scx => s.setPpu { s.ppu with scx := v }
  | .ly => s
  | .lyc => s.writeLyc v
  | .dma => s.writeDma v
  | .bgp => s.setPpu { s.ppu with bgp := v }
  | .obp0 => s.setPpu { s.ppu with obp0 := v }
  | .obp1 => s.setPpu { s.ppu with obp1 := v }
  | .wy => s.setPpu { s.ppu with wy := v }
  | .wx => s.setPpu { s.ppu with wx := v }
  | .key1 => s.writeKey1 v
  | .vbk => s.setMems { s.mems with vbk := v.extractLsb' 0 1 }
  | .bootOff => s.writeBootOff v
  | .hdma1 => s.setDma { s.dma with hdma1 := v }
  | .hdma2 => s.setDma { s.dma with hdma2 := v }
  | .hdma3 => s.setDma { s.dma with hdma3 := v }
  | .hdma4 => s.setDma { s.dma with hdma4 := v }
  | .hdma5 => s.writeHdma5 v
  | .bcps => s.setPpu { s.ppu with bcps := PalIndex.ofByte v }
  | .bcpd => s.writeBcpd v
  | .ocps => s.setPpu { s.ppu with ocps := PalIndex.ofByte v }
  | .ocpd => s.writeOcpd v
  | .svbk => s.setMems { s.mems with svbk := v.extractLsb' 0 3 }

/-- `BusWrite(addr, v)`, the CPU's byte write (R85, R87). -/
def busWrite (s : State) (a : Word) (v : Byte) : State :=
  match s.region a with
  | .boot _ => s
  | .cart _ => s.cartWrite a v
  | .vram k => if s.cpuBlocked then s else s.setMems { s.mems with vram := s.mems.vram.write k v }
  | .wram k => s.setMems { s.mems with wram := s.mems.wram.write k v }
  | .oam i => if s.cpuBlocked then s else s.setMems { s.mems with oam := s.mems.oam.write i v }
  | .io r => s.ioWrite r v
  | .unmapped => s
  | .hram i => s.setMems { s.mems with hram := s.mems.hram.write i v }
  | .ie => s.writeIe v

end State

end Sys2Proof.Machine
end

