-- ==== Sys2Proof/Machine/Render.lean ====
section
/-! DEFINITION. Rendering a scanline into the framebuffer at HBlank entry (R340 to R351). -/

namespace Sys2Proof.Machine

/-- `SCREEN_W` (R8, R43). -/
def screenW : Nat := 160

/-- `SCREEN_H` (R8, R43). -/
def screenH : Nat := 144

/-- Two bits of a palette register: the shade of a colour index (R50, R349). -/
def shadeOf (palette : Byte) (ci : Nat) : Nat := (palette.extractLsb' (2 * ci) 2).toNat

/-- A 5-bit colour component as a byte (R350). -/
def expand5 (v : BitVec 5) : Byte := v ++ v.extractLsb' 2 3

/-- A 15-bit colour word as R, G, B, A (R350). -/
def rgbaOf (c : Word) : Rgba :=
  expand5 (c.extractLsb' 0 5) ++ expand5 (c.extractLsb' 5 5) ++ expand5 (c.extractLsb' 10 5) ++ (0xFF : Byte)

/-- Colour `ci` of palette `p` of a palette memory (R350). -/
def paletteColour (pal : Memory) (p ci : Nat) : Rgba :=
  rgbaOf (Word.ofBytes (pal.read (8 * p + 2 * ci + 1)) (pal.read (8 * p + 2 * ci)))

/-- A layer's pixel: colour index and attribute byte (R342, R347). -/
structure LayerPixel where
  ci : Nat
  attr : Byte
  deriving DecidableEq, Repr

/-- A sprite that covers a pixel: its OAM index, its X and its pixel (R347). -/
structure SpritePixel where
  index : Nat
  x : Nat
  pixel : LayerPixel
  deriving DecidableEq, Repr

/-- The two bits of a tile row at a column (R341). -/
def rowPixel (lo hi : Byte) (col : Nat) : Nat := 2 * (hi.getLsbD (7 - col)).toNat + (lo.getLsbD (7 - col)).toNat

namespace State

/-- A byte of VRAM by bank and offset, as the PPU reads it (R340). -/
def vramByte (s : State) (bank off : Nat) : Byte := s.mems.vram.read (8192 * bank + off)

/-- `TilePixel`, the tile given by its offset in VRAM (R341). -/
def tilePixel (s : State) (bank off row col : Nat) : Nat :=
  rowPixel (s.vramByte bank (off + 2 * row)) (s.vramByte bank (off + 2 * row + 1)) col

/-- The offset in VRAM of background tile `t` (R341). -/
def bgTileOffset (s : State) (t : Byte) : Nat :=
  if s.ppu.lcdc.getLsbD 4 then 16 * t.toNat else (0x1000 + 16 * t.toInt).toNat

/-- A pixel of a tile map, at (px, py) of the map whose offset in VRAM is `map` (R342, R351). -/
def mapPixel (s : State) (map px py : Nat) : LayerPixel :=
  let off := map + 32 * (py / 8) + px / 8
  let t := s.vramByte 0 off
  let a : Byte := match s.cfg.model with
    | .cgb => s.vramByte 1 off
    | .dmg => 0
  let row := if a.getLsbD 6 then 7 - py % 8 else py % 8
  let col := if a.getLsbD 5 then 7 - px % 8 else px % 8
  { ci := s.tilePixel (a.getLsbD 3).toNat (s.bgTileOffset t) row col, attr := a }

/-- Background and window are drawn: always on CGB, by LCDC[0] on DMG (R342, R344). -/
def bgEnabled (s : State) : Bool :=
  match s.cfg.model with
  | .cgb => true
  | .dmg => s.ppu.lcdc.getLsbD 0

/-- The background pixel (R342). -/
def backgroundPixel (s : State) (ly x : Nat) : LayerPixel :=
  s.mapPixel (if s.ppu.lcdc.getLsbD 3 then 0x1C00 else 0x1800) ((x + s.ppu.scx.toNat) % 256)
    ((ly + s.ppu.scy.toNat) % 256)

/-- The window covers at least one pixel of line `ly` (R345). -/
def windowOnLine (s : State) (ly : Nat) : Bool :=
  s.ppu.lcdc.getLsbD 5 && s.bgEnabled && decide (s.ppu.wy.toNat ≤ ly) && decide (s.ppu.wx.toNat ≤ 166)

/-- The window covers pixel (x, ly) (R344). -/
def windowCovers (s : State) (ly x : Nat) : Bool := s.windowOnLine ly && decide (s.ppu.wx.toNat ≤ x + 7)

/-- The window pixel (R344). -/
def windowPixel (s : State) (x : Nat) : LayerPixel :=
  s.mapPixel (if s.ppu.lcdc.getLsbD 6 then 0x1C00 else 0x1800) (x + 7 - s.ppu.wx.toNat) s.ppu.windowLine.toNat

/-- The background or window pixel of (x, ly) (R342, R344). -/
def bgPixel (s : State) (ly x : Nat) : LayerPixel :=
  if s.bgEnabled then (if s.windowCovers ly x then s.windowPixel x else s.backgroundPixel ly x) else { ci := 0, attr := 0 }

/-- The pixel of sprite `i` at (x, ly), if the sprite covers it and is not transparent there (R346, R347). -/
def spriteCandidate (s : State) (ly x i : Nat) : Option SpritePixel :=
  let sy := (s.mems.oam.read (4 * i)).toNat
  let sx := (s.mems.oam.read (4 * i + 1)).toNat
  let tile := s.mems.oam.read (4 * i + 2)
  let flags := s.mems.oam.read (4 * i + 3)
  let h := s.ppu.spriteHeight
  if s.spriteOnLine ly i && decide (sx ≤ x + 8) && decide (x + 8 < sx + 8) then
    let col := if flags.getLsbD 5 then 7 - (x + 8 - sx) else x + 8 - sx
    let r := if flags.getLsbD 6 then h - 1 - (ly + 16 - sy) else ly + 16 - sy
    let t := if h = 8 then tile.toNat else 2 * (tile.toNat / 2) + r / 8
    let bank := match s.cfg.model with
      | .cgb => (flags.getLsbD 3).toNat
      | .dmg => 0
    let ci := s.tilePixel bank (16 * t) (r % 8) col
    if ci = 0 then none else some { index := i, x := sx, pixel := { ci := ci, attr := flags } }
  else none

/-- Which of two candidates is drawn: by X, then by OAM index, on DMG; by OAM index on CGB (R347). -/
def spriteBefore (s : State) (a b : SpritePixel) : Bool :=
  match s.cfg.model with
  | .dmg => decide (a.x < b.x) || (decide (a.x = b.x) && decide (a.index ≤ b.index))
  | .cgb => decide (a.index ≤ b.index)

/-- The sprite pixel of (x, ly) (R347). -/
def spritePixel (s : State) (ly x : Nat) : Option LayerPixel :=
  if s.ppu.lcdc.getLsbD 1 then
    let best := (s.ppu.scan.filterMap (s.spriteCandidate ly x)).foldl
      (fun (acc : Option SpritePixel) c =>
        match acc with
        | none => some c
        | some b => some (if s.spriteBefore b c then b else c)) none
    best.map (fun c => c.pixel)
  else none

/-- The sprite is shown over the background (R348). -/
def spriteWins (s : State) (bg ob : LayerPixel) : Bool :=
  match s.cfg.model with
  | .dmg => !(ob.attr.getLsbD 7 && decide (bg.ci ≠ 0))
  | .cgb => !s.ppu.lcdc.getLsbD 0 || decide (bg.ci = 0) || !(bg.attr.getLsbD 7 || ob.attr.getLsbD 7)

/-- `DMG_SHADES[shade]` (R349). -/
def dmgShade (s : State) (shade : Nat) : Rgba := s.cfg.dmgShades.toList.getD shade 0

/-- The colour of a background or window pixel (R342, R349, R350). -/
def bgColour (s : State) (p : LayerPixel) : Rgba :=
  match s.cfg.model with
  | .dmg => if s.bgEnabled then s.dmgShade (shadeOf s.ppu.bgp p.ci) else s.dmgShade 0
  | .cgb => paletteColour s.mems.bgPal (p.attr.extractLsb' 0 3).toNat p.ci

/-- The colour of a sprite pixel (R349, R350). -/
def spriteColour (s : State) (p : LayerPixel) : Rgba :=
  match s.cfg.model with
  | .dmg => s.dmgShade (shadeOf (if p.attr.getLsbD 4 then s.ppu.obp1 else s.ppu.obp0) p.ci)
  | .cgb => paletteColour s.mems.objPal (p.attr.extractLsb' 0 3).toNat p.ci

/-- The pixel `RenderLine` writes at (x, ly) (R343, R348). -/
def pixelAt (s : State) (ly x : Nat) : Rgba :=
  let bg := s.bgPixel ly x
  match s.spritePixel ly x with
  | some ob => if s.spriteWins bg ob then s.spriteColour ob else s.bgColour bg
  | none => s.bgColour bg

/-- The framebuffer with line `ly` replaced (R343). -/
def drawLine (s : State) (ly : Nat) : List (Nat × Rgba) :=
  (List.range screenW).foldl (fun fb x => sparseSet s.blankColour fb (screenW * ly + x) (s.pixelAt ly x)) s.ppu.fb

/-- `RenderLine(ly)` (R340, R345). -/
def renderLine (s : State) (ly : Nat) : State :=
  s.setPpu
    { s.ppu with
      fb := s.drawLine ly, windowLine := if s.windowOnLine ly then s.ppu.windowLine + 1 else s.ppu.windowLine }

/-- The pixel of the framebuffer at (x, y) (R43). -/
def fbPixel (s : State) (x y : Nat) : Rgba := sparseGet s.blankColour s.ppu.fb (screenW * y + x)

/-- `Screen()`: the 160 × 144 pixels, row by row (R343). -/
def screen (s : State) : List Rgba := (List.range (screenW * screenH)).map (sparseGet s.blankColour s.ppu.fb)

end State

end Sys2Proof.Machine
end

