-- ==== Sys2Proof/Machine/Events.lean ====
section
/-! DEFINITION. The callbacks of the six events (R24). -/

namespace Sys2Proof.Machine

/-- `FS_PERIOD` (R8, R380). -/
def fsPeriod : Nat := 8192

namespace State

/-- `EV_PPU`, phase `M3`: HBlank entry (R330). -/
def hblankEntry (s : State) : State :=
  let s := s.setPpu { s.ppu with phase := .m0, mode := .hblank }
  let s := if s.ppu.skipFrame then s else s.renderLine s.ppu.ly.toNat
  s.statUpdate.hblankDmaStep

/-- `EV_PPU`, phase `M2`: the OAM scan ends, pixel transfer starts (R330). -/
def transferEntry (s : State) : State :=
  let scan := s.oamScan s.ppu.ly.toNat
  (s.setPpu
    { s.ppu with scan := scan, m3Extra := s.m3ExtraOf scan.length, phase := .m3, mode := .transfer }).statUpdate

/-- `EV_PPU` (R330). -/
def ppuEvent (s : State) (late : Int) : State :=
  let due := (s.sched.cycle : Int) - late
  match s.ppu.phase with
  | .off => (s.setPpu { s.ppu with frame := s.ppu.frame + 1 }).schedule .ppu (frameCycles - late)
  | .m2 =>
    let s := s.transferEntry
    s.schedule .ppu (m3Base + s.ppu.m3Extra - late)
  | .m3 =>
    let s := s.hblankEntry
    s.schedule .ppu ((lineCycles : Int) - m2Cycles - m3Base - s.ppu.m3Extra - late)
  | .m0 =>
    let s := s.setPpu { s.ppu with ly := s.ppu.ly + 1, lineStart := due }
    if s.ppu.ly = 144 then
      let s := (s.setPpu { s.ppu with phase := .m1, mode := .vblank }).requestInterrupt 0
      s.statUpdate.schedule .ppu (lineCycles - late)
    else (s.setPpu { s.ppu with phase := .m2, mode := .oamScan }).statUpdate.schedule .ppu (m2Cycles - late)
  | .m1 =>
    let s := s.setPpu { s.ppu with lineStart := due }
    if s.ppu.ly = 153 then
      (s.setPpu
        { s.ppu with
          ly := 0, frame := s.ppu.frame + 1, skipFrame := false, windowLine := 0, phase := .m2
          mode := .oamScan }).statUpdate.schedule .ppu (m2Cycles - late)
    else (s.setPpu { s.ppu with ly := s.ppu.ly + 1 }).statUpdate.schedule .ppu (lineCycles - late)

/-- The APU caught up to the logical time of an event that is `late` (R376, R380, R419). -/
def apuAt (s : State) (late : Int) : Apu := s.apu.catchUp s.mems.wave ((s.sched.cycle : Int) - late)

/-- `EV_APU_FS` (R380). -/
def fsEvent (s : State) (late : Int) : State := (s.setApu (s.apuAt late).frameStep).schedule .apuFs (fsPeriod - late)

/-- `EV_APU_SAMPLE` (R419). -/
def sampleEvent (s : State) (late : Int) : State :=
  let s := s.setApu (s.apuAt late)
  { s with sampleOut := s.sampleOut ++ [s.apu.mix] }.schedule .apuSample (s.cfg.samplePeriod - late)

/-- The callback of a handle (R24). -/
def fire (s : State) (h : Handle) (late : Int) : State :=
  match h with
  | .ppu => s.ppuEvent late
  | .timerInc => s.timerIncEvent late
  | .timerReload => s.timerReloadEvent
  | .apuFs => s.fsEvent late
  | .apuSample => s.sampleEvent late
  | .oamDma => s.oamDmaEvent

end State

end Sys2Proof.Machine
end

