-- ==== Sys2Proof/Machine/Commit.lean ====
section
/-! DEFINITION. `Commit` (R176): the staged cycles are folded in and every due event fires, in due order. -/

namespace Sys2Proof.Machine

namespace State

/-- Some event is due (R176). -/
def overdue (s : State) : Bool :=
  match s.sched.queue with
  | [] => false
  | (_, due) :: _ => decide (due ≤ (s.sched.cycle : Int))

/-- Pop the head of the queue and run its callback with its overshoot; `none` when nothing is due (R176). -/
def fireHead (s : State) : Option State :=
  match s.sched.queue with
  | [] => none
  | (h, due) :: rest =>
    if due ≤ (s.sched.cycle : Int) then some ((s.setQueue rest).fire h ((s.sched.cycle : Int) - due)) else none

/-- The loop of `Commit`: it re-reads the head after every callback, and a fault in a callback stops it (R176, R507). Out of
fuel with an event still due, it faults (log 13). -/
def commitLoop : Nat → State → State
  | 0, s => if s.overdue then s.raiseFault .commitUnbounded else s
  | fuel + 1, s =>
    match s.fault with
    | some _ => s
    | none =>
      match s.fireHead with
      | none => s
      | some s' => commitLoop fuel s'

/-- The staged cycles folded into the counter (R176). -/
def fold (s : State) : State := { s with sched := { s.sched with cycle := s.sched.cycle + s.sched.staged, staged := 0 } }

/-- How long the head of the queue is overdue. -/
def headLateness (s : State) : Nat :=
  match s.sched.queue with
  | [] => 0
  | (_, due) :: _ => ((s.sched.cycle : Int) - due).toNat

/-- As many events as can be due with admissible parameters: each of six handles at most once a cycle. -/
def commitFuel (s : State) : Nat := 6 * (s.headLateness + 2)

/-- `Commit()` (R176). -/
def commit (s : State) : State := commitLoop s.fold.commitFuel s.fold

end State

end Sys2Proof.Machine
end

