-- ==== Sys2Proof/WellFormed.lean ====
section
/-! DEFINITION. Which instruction terms are well formed: every operand fits its field by its type, so the one check is that an
`illegal` term carries an opcode that really has no table entry. -/

namespace Sys2Proof

/-- The eleven opcodes of the unprefixed table without an entry (R155). -/
def illegalOpcodes : List Byte := [0xD3, 0xDB, 0xDD, 0xE3, 0xE4, 0xEB, 0xEC, 0xED, 0xF4, 0xFC, 0xFD]

/-- Well-formedness by form. -/
def Form.wf : Form → Bool
  | .ldRR _ _ => true
  | .ldRN _ _ => true
  | .ldRM _ => true
  | .ldMR _ => true
  | .ldMN _ => true
  | .ldABC => true
  | .ldADE => true
  | .ldBCA => true
  | .ldDEA => true
  | .ldANN _ => true
  | .ldNNA _ => true
  | .ldhAC => true
  | .ldhCA => true
  | .ldhAN _ => true
  | .ldhNA _ => true
  | .ldAHLd => true
  | .ldHLdA => true
  | .ldAHLi => true
  | .ldHLiA => true
  | .ldPairNN _ _ => true
  | .ldNNSP _ => true
  | .ldSPHL => true
  | .push _ => true
  | .pop _ => true
  | .ldHLSPe _ => true
  | .aluR _ _ => true
  | .aluM _ => true
  | .aluN _ _ => true
  | .incR _ => true
  | .incM => true
  | .decR _ => true
  | .decM => true
  | .daa => true
  | .cpl => true
  | .scf => true
  | .ccf => true
  | .addHL _ => true
  | .incPair _ => true
  | .decPair _ => true
  | .addSPe _ => true
  | .rlca => true
  | .rrca => true
  | .rla => true
  | .rra => true
  | .rotR _ _ => true
  | .rotM _ => true
  | .bitR _ _ => true
  | .bitM _ => true
  | .resR _ _ => true
  | .resM _ => true
  | .setR _ _ => true
  | .setM _ => true
  | .jp _ => true
  | .jpCc _ _ => true
  | .jr _ => true
  | .jrCc _ _ => true
  | .jpHL => true
  | .call _ => true
  | .callCc _ _ => true
  | .ret => true
  | .retCc _ => true
  | .reti => true
  | .rst _ => true
  | .nop => true
  | .di => true
  | .ei => true
  | .halt => true
  | .stop _ => true
  | .prefixCB => true
  | .illegal op => illegalOpcodes.contains op

/-- A well-formed instruction. -/
def Instr.wf (i : Instr) : Bool := i.form.wf

end Sys2Proof
end

