-- ==== Sys2Proof/Decode.lean ====
section
/-! DEFINITION. The decoder, total on any list of bytes, written from the field description of the opcode map (R140 to R152),
and after it the encoder, written from the opcode grids (R153, R154), row by row. -/

namespace Sys2Proof

/-! The fields of an opcode byte (R141). -/

/-- `x = op[7:6]` -/
def opX (op : Byte) : Nat := op.toNat / 64
/-- `y = op[5:3]` -/
def opY (op : Byte) : Nat := op.toNat / 8 % 8
/-- `z = op[2:0]` -/
def opZ (op : Byte) : Nat := op.toNat % 8
/-- `p = op[5:4]` -/
def opP (op : Byte) : Nat := op.toNat / 16 % 4
/-- `q = op[3]` -/
def opQ (op : Byte) : Nat := op.toNat / 8 % 2

/-- The operand of a 3-bit register field (R143). -/
def Operand8.ofField : Nat → Operand8
  | 0 => .reg .b
  | 1 => .reg .c
  | 2 => .reg .d
  | 3 => .reg .e
  | 4 => .reg .h
  | 5 => .reg .l
  | 6 => .atHL
  | _ => .reg .a

/-- The pair of field `rr` (R144). -/
def Pair.ofField : Nat → Pair
  | 0 => .bc
  | 1 => .de
  | 2 => .hl
  | _ => .sp

/-- The pair of field `rr2` (R145). -/
def StackPair.ofField : Nat → StackPair
  | 0 => .bc
  | 1 => .de
  | 2 => .hl
  | _ => .af

/-- The condition of field `cc` (R146). -/
def Cond.ofField : Nat → Cond
  | 0 => .nz
  | 1 => .z
  | 2 => .nc
  | _ => .c

/-- The operation of field `alu` (R147). -/
def AluOp.ofField : Nat → AluOp
  | 0 => .add
  | 1 => .adc
  | 2 => .sub
  | 3 => .sbc
  | 4 => .and
  | 5 => .xor
  | 6 => .or
  | _ => .cp

/-- The operation of field `rot` (R148). -/
def RotOp.ofField : Nat → RotOp
  | 0 => .rlc
  | 1 => .rrc
  | 2 => .rl
  | 3 => .rr
  | 4 => .sla
  | 5 => .sra
  | 6 => .swap
  | _ => .srl

/-- The number in a 3-bit field (R149). -/
def Oct.ofField : Nat → Oct
  | 0 => .o0
  | 1 => .o1
  | 2 => .o2
  | 3 => .o3
  | 4 => .o4
  | 5 => .o5
  | 6 => .o6
  | _ => .o7

/-- Why a list of bytes is no instruction. The opcode map itself is total: an opcode without an entry decodes to `illegal`. -/
inductive DecodeError where
  /-- there is no opcode byte -/
  | noBytes
  /-- the operand bytes of this opcode are missing -/
  | truncated (opcode : Byte)
  deriving DecidableEq, Repr

/-- A decoded form with the bytes that follow it. -/
abbrev DecodeResult := Except DecodeError (Form × List Byte)

/-- Format `OP`: no operand byte (R140). -/
def fmtOp (f : Form) (rest : List Byte) : DecodeResult := .ok (f, rest)

/-- Formats `OP_N8` and `OP_E8`: one operand byte (R140, R142, R149). -/
def fmtN8 (op : Byte) (f : Byte → Form) : List Byte → DecodeResult
  | n :: rest => .ok (f n, rest)
  | [] => .error (.truncated op)

/-- Format `OP_N16`: two operand bytes, low byte first (R140, R142, R149). -/
def fmtN16 (op : Byte) (f : Word → Form) : List Byte → DecodeResult
  | lo :: hi :: rest => .ok (f (Word.ofBytes hi lo), rest)
  | _ => .error (.truncated op)

/-- Quadrant `x = 0` of the unprefixed table (R151). -/
def decodeX0 (op : Byte) (rest : List Byte) : DecodeResult :=
  match opZ op with
  | 0 =>
    match opY op with
    | 0 => fmtOp .nop rest
    | 1 => fmtN16 op .ldNNSP rest
    | 2 => fmtN8 op .stop rest
    | 3 => fmtN8 op .jr rest
    | y => fmtN8 op (.jrCc (Cond.ofField (y - 4))) rest
  | 1 =>
    match opQ op with
    | 0 => fmtN16 op (.ldPairNN (Pair.ofField (opP op))) rest
    | _ => fmtOp (.addHL (Pair.ofField (opP op))) rest
  | 2 =>
    match opY op with
    | 0 => fmtOp .ldBCA rest
    | 1 => fmtOp .ldABC rest
    | 2 => fmtOp .ldDEA rest
    | 3 => fmtOp .ldADE rest
    | 4 => fmtOp .ldHLiA rest
    | 5 => fmtOp .ldAHLi rest
    | 6 => fmtOp .ldHLdA rest
    | _ => fmtOp .ldAHLd rest
  | 3 =>
    match opQ op with
    | 0 => fmtOp (.incPair (Pair.ofField (opP op))) rest
    | _ => fmtOp (.decPair (Pair.ofField (opP op))) rest
  | 4 =>
    match Operand8.ofField (opY op) with
    | .reg r => fmtOp (.incR r) rest
    | .atHL => fmtOp .incM rest
  | 5 =>
    match Operand8.ofField (opY op) with
    | .reg r => fmtOp (.decR r) rest
    | .atHL => fmtOp .decM rest
  | 6 =>
    match Operand8.ofField (opY op) with
    | .reg r => fmtN8 op (.ldRN r) rest
    | .atHL => fmtN8 op .ldMN rest
  | _ =>
    match opY op with
    | 0 => fmtOp .rlca rest
    | 1 => fmtOp .rrca rest
    | 2 => fmtOp .rla rest
    | 3 => fmtOp .rra rest
    | 4 => fmtOp .daa rest
    | 5 => fmtOp .cpl rest
    | 6 => fmtOp .scf rest
    | _ => fmtOp .ccf rest

/-- Quadrant `x = 1`: register loads, and `HALT` where both fields are 6 (R151). -/
def decodeX1 (op : Byte) (rest : List Byte) : DecodeResult :=
  match Operand8.ofField (opY op), Operand8.ofField (opZ op) with
  | .reg r, .reg r' => fmtOp (.ldRR r r') rest
  | .reg r, .atHL => fmtOp (.ldRM r) rest
  | .atHL, .reg r' => fmtOp (.ldMR r') rest
  | .atHL, .atHL => fmtOp .halt rest

/-- Quadrant `x = 2`: the accumulator operations on `r[z]` (R151). -/
def decodeX2 (op : Byte) (rest : List Byte) : DecodeResult :=
  match Operand8.ofField (opZ op) with
  | .reg r => fmtOp (.aluR (AluOp.ofField (opY op)) r) rest
  | .atHL => fmtOp (.aluM (AluOp.ofField (opY op))) rest

/-- Quadrant `x = 3` but for the prefix byte (R151, R155). -/
def decodeX3 (op : Byte) (rest : List Byte) : DecodeResult :=
  match opZ op with
  | 0 =>
    match opY op with
    | 4 => fmtN8 op .ldhNA rest
    | 5 => fmtN8 op .addSPe rest
    | 6 => fmtN8 op .ldhAN rest
    | 7 => fmtN8 op .ldHLSPe rest
    | y => fmtOp (.retCc (Cond.ofField y)) rest
  | 1 =>
    match opQ op with
    | 0 => fmtOp (.pop (StackPair.ofField (opP op))) rest
    | _ =>
      match opP op with
      | 0 => fmtOp .ret rest
      | 1 => fmtOp .reti rest
      | 2 => fmtOp .jpHL rest
      | _ => fmtOp .ldSPHL rest
  | 2 =>
    match opY op with
    | 4 => fmtOp .ldhCA rest
    | 5 => fmtN16 op .ldNNA rest
    | 6 => fmtOp .ldhAC rest
    | 7 => fmtN16 op .ldANN rest
    | y => fmtN16 op (.jpCc (Cond.ofField y)) rest
  | 3 =>
    match opY op with
    | 0 => fmtN16 op .jp rest
    | 6 => fmtOp .di rest
    | 7 => fmtOp .ei rest
    | _ => fmtOp (.illegal op) rest
  | 4 =>
    match opY op with
    | 0 => fmtN16 op (.callCc .nz) rest
    | 1 => fmtN16 op (.callCc .z) rest
    | 2 => fmtN16 op (.callCc .nc) rest
    | 3 => fmtN16 op (.callCc .c) rest
    | _ => fmtOp (.illegal op) rest
  | 5 =>
    match opQ op with
    | 0 => fmtOp (.push (StackPair.ofField (opP op))) rest
    | _ =>
      match opP op with
      | 0 => fmtN16 op .call rest
      | _ => fmtOp (.illegal op) rest
  | 6 => fmtN8 op (.aluN (AluOp.ofField (opY op))) rest
  | _ => fmtOp (.rst (Oct.ofField (opY op))) rest

/-- The extended table: the form the second byte after 0xCB selects; it has no empty entry (R152). -/
def decodeExtended (op2 : Byte) : Form :=
  match opX op2, Operand8.ofField (opZ op2) with
  | 0, .reg r => .rotR (RotOp.ofField (opY op2)) r
  | 0, .atHL => .rotM (RotOp.ofField (opY op2))
  | 1, .reg r => .bitR (Oct.ofField (opY op2)) r
  | 1, .atHL => .bitM (Oct.ofField (opY op2))
  | 2, .reg r => .resR (Oct.ofField (opY op2)) r
  | 2, .atHL => .resM (Oct.ofField (opY op2))
  | _, .reg r => .setR (Oct.ofField (opY op2)) r
  | _, .atHL => .setM (Oct.ofField (opY op2))

/-- Format `CB_OP`: the byte after the prefix selects a row of the extended table (R140, R152, R198). The prefix byte alone,
with nothing after it, is the row `PREFIX CB`. -/
def fmtCB : List Byte → DecodeResult
  | op2 :: rest => .ok (decodeExtended op2, rest)
  | [] => .ok (.prefixCB, [])

/-- The unprefixed table on an opcode byte and the bytes after it (R151). -/
def decodeOpcode (op : Byte) (rest : List Byte) : DecodeResult :=
  if op = 0xCB then fmtCB rest
  else
    match opX op with
    | 0 => decodeX0 op rest
    | 1 => decodeX1 op rest
    | 2 => decodeX2 op rest
    | _ => decodeX3 op rest

/-- The form that a list of bytes begins with. -/
def decodeForm : List Byte → DecodeResult
  | [] => .error .noBytes
  | op :: rest => decodeOpcode op rest

/-- The instruction a list of bytes begins with and the bytes after it, or the reason there is none. -/
def decode (bs : List Byte) : Except DecodeError (Instr × List Byte) :=
  match decodeForm bs with
  | .ok (f, rest) => .ok (f.instr, rest)
  | .error e => .error e

/-- The first `k` bytes of a number whose bits count up from the first byte (bit 0 of the first byte is bit 0 of `w`). -/
def tableBytes : Nat → Nat → List Byte
  | 0, _ => []
  | k + 1, w => BitVec.ofNat 8 w :: tableBytes k (w / 256)

/-- The instruction the decoder reads from `nbits` bits numbered as spec/opcode_table.json numbers them. The bytes the table
gives the row are decoded as they are; where they leave operand bytes out, these are zeros. -/
def decodeTableWord (nbits w : Nat) : Option Instr :=
  match decode (tableBytes (nbits / 8) w) with
  | .ok (i, []) => some i
  | _ =>
    match decode (tableBytes (nbits / 8) w ++ [0, 0]) with
    | .ok (i, _) => some i
    | .error _ => none

/-! The encoder, from the grids (R153, R154) and the formats (R140). -/

/-- Two operand bytes, low byte first (R149). -/
def encN16 (op : Byte) (nn : Word) : List Byte := [op, nn.lo, nn.hi]

/-- The bytes of an instruction, in address order. -/
def encode : Instr → List Byte
  | .nop => [0x00]
  | .ld_BC_n16 nn => encN16 0x01 nn
  | .ld_atBC_A => [0x02]
  | .inc_BC => [0x03]
  | .inc_B => [0x04]
  | .dec_B => [0x05]
  | .ld_B_n8 n => [0x06, n]
  | .rlca => [0x07]
  | .ld_atN16_SP nn => encN16 0x08 nn
  | .add_HL_BC => [0x09]
  | .ld_A_atBC => [0x0A]
  | .dec_BC => [0x0B]
  | .inc_C => [0x0C]
  | .dec_C => [0x0D]
  | .ld_C_n8 n => [0x0E, n]
  | .rrca => [0x0F]
  | .stop n => [0x10, n]
  | .ld_DE_n16 nn => encN16 0x11 nn
  | .ld_atDE_A => [0x12]
  | .inc_DE => [0x13]
  | .inc_D => [0x14]
  | .dec_D => [0x15]
  | .ld_D_n8 n => [0x16, n]
  | .rla => [0x17]
  | .jr_e8 e => [0x18, e]
  | .add_HL_DE => [0x19]
  | .ld_A_atDE => [0x1A]
  | .dec_DE => [0x1B]
  | .inc_E => [0x1C]
  | .dec_E => [0x1D]
  | .ld_E_n8 n => [0x1E, n]
  | .rra => [0x1F]
  | .jr_NZ_e8 e => [0x20, e]
  | .ld_HL_n16 nn => encN16 0x21 nn
  | .ld_atHLi_A => [0x22]
  | .inc_HL => [0x23]
  | .inc_H => [0x24]
  | .dec_H => [0x25]
  | .ld_H_n8 n => [0x26, n]
  | .daa => [0x27]
  | .jr_Z_e8 e => [0x28, e]
  | .add_HL_HL => [0x29]
  | .ld_A_atHLi => [0x2A]
  | .dec_HL => [0x2B]
  | .inc_L => [0x2C]
  | .dec_L => [0x2D]
  | .ld_L_n8 n => [0x2E, n]
  | .cpl => [0x2F]
  | .jr_NC_e8 e => [0x30, e]
  | .ld_SP_n16 nn => encN16 0x31 nn
  | .ld_atHLd_A => [0x32]
  | .inc_SP => [0x33]
  | .inc_atHL => [0x34]
  | .dec_atHL => [0x35]
  | .ld_atHL_n8 n => [0x36, n]
  | .scf => [0x37]
  | .jr_C_e8 e => [0x38, e]
  | .add_HL_SP => [0x39]
  | .ld_A_atHLd => [0x3A]
  | .dec_SP => [0x3B]
  | .inc_A => [0x3C]
  | .dec_A => [0x3D]
  | .ld_A_n8 n => [0x3E, n]
  | .ccf => [0x3F]
  | .ld_B_B => [0x40]
  | .ld_B_C => [0x41]
  | .ld_B_D => [0x42]
  | .ld_B_E => [0x43]
  | .ld_B_H => [0x44]
  | .ld_B_L => [0x45]
  | .ld_B_atHL => [0x46]
  | .ld_B_A => [0x47]
  | .ld_C_B => [0x48]
  | .ld_C_C => [0x49]
  | .ld_C_D => [0x4A]
  | .ld_C_E => [0x4B]
  | .ld_C_H => [0x4C]
  | .ld_C_L => [0x4D]
  | .ld_C_atHL => [0x4E]
  | .ld_C_A => [0x4F]
  | .ld_D_B => [0x50]
  | .ld_D_C => [0x51]
  | .ld_D_D => [0x52]
  | .ld_D_E => [0x53]
  | .ld_D_H => [0x54]
  | .ld_D_L => [0x55]
  | .ld_D_atHL => [0x56]
  | .ld_D_A => [0x57]
  | .ld_E_B => [0x58]
  | .ld_E_C => [0x59]
  | .ld_E_D => [0x5A]
  | .ld_E_E => [0x5B]
  | .ld_E_H => [0x5C]
  | .ld_E_L => [0x5D]
  | .ld_E_atHL => [0x5E]
  | .ld_E_A => [0x5F]
  | .ld_H_B => [0x60]
  | .ld_H_C => [0x61]
  | .ld_H_D => [0x62]
  | .ld_H_E => [0x63]
  | .ld_H_H => [0x64]
  | .ld_H_L => [0x65]
  | .ld_H_atHL => [0x66]
  | .ld_H_A => [0x67]
  | .ld_L_B => [0x68]
  | .ld_L_C => [0x69]
  | .ld_L_D => [0x6A]
  | .ld_L_E => [0x6B]
  | .ld_L_H => [0x6C]
  | .ld_L_L => [0x6D]
  | .ld_L_atHL => [0x6E]
  | .ld_L_A => [0x6F]
  | .ld_atHL_B => [0x70]
  | .ld_atHL_C => [0x71]
  | .ld_atHL_D => [0x72]
  | .ld_atHL_E => [0x73]
  | .ld_atHL_H => [0x74]
  | .ld_atHL_L => [0x75]
  | .halt => [0x76]
  | .ld_atHL_A => [0x77]
  | .ld_A_B => [0x78]
  | .ld_A_C => [0x79]
  | .ld_A_D => [0x7A]
  | .ld_A_E => [0x7B]
  | .ld_A_H => [0x7C]
  | .ld_A_L => [0x7D]
  | .ld_A_atHL => [0x7E]
  | .ld_A_A => [0x7F]
  | .add_A_B => [0x80]
  | .add_A_C => [0x81]
  | .add_A_D => [0x82]
  | .add_A_E => [0x83]
  | .add_A_H => [0x84]
  | .add_A_L => [0x85]
  | .add_A_atHL => [0x86]
  | .add_A_A => [0x87]
  | .adc_A_B => [0x88]
  | .adc_A_C => [0x89]
  | .adc_A_D => [0x8A]
  | .adc_A_E => [0x8B]
  | .adc_A_H => [0x8C]
  | .adc_A_L => [0x8D]
  | .adc_A_atHL => [0x8E]
  | .adc_A_A => [0x8F]
  | .sub_B => [0x90]
  | .sub_C => [0x91]
  | .sub_D => [0x92]
  | .sub_E => [0x93]
  | .sub_H => [0x94]
  | .sub_L => [0x95]
  | .sub_atHL => [0x96]
  | .sub_A => [0x97]
  | .sbc_A_B => [0x98]
  | .sbc_A_C => [0x99]
  | .sbc_A_D => [0x9A]
  | .sbc_A_E => [0x9B]
  | .sbc_A_H => [0x9C]
  | .sbc_A_L => [0x9D]
  | .sbc_A_atHL => [0x9E]
  | .sbc_A_A => [0x9F]
  | .and_B => [0xA0]
  | .and_C => [0xA1]
  | .and_D => [0xA2]
  | .and_E => [0xA3]
  | .and_H => [0xA4]
  | .and_L => [0xA5]
  | .and_atHL => [0xA6]
  | .and_A => [0xA7]
  | .xor_B => [0xA8]
  | .xor_C => [0xA9]
  | .xor_D => [0xAA]
  | .xor_E => [0xAB]
  | .xor_H => [0xAC]
  | .xor_L => [0xAD]
  | .xor_atHL => [0xAE]
  | .xor_A => [0xAF]
  | .or_B => [0xB0]
  | .or_C => [0xB1]
  | .or_D => [0xB2]
  | .or_E => [0xB3]
  | .or_H => [0xB4]
  | .or_L => [0xB5]
  | .or_atHL => [0xB6]
  | .or_A => [0xB7]
  | .cp_B => [0xB8]
  | .cp_C => [0xB9]
  | .cp_D => [0xBA]
  | .cp_E => [0xBB]
  | .cp_H => [0xBC]
  | .cp_L => [0xBD]
  | .cp_atHL => [0xBE]
  | .cp_A => [0xBF]
  | .ret_NZ => [0xC0]
  | .pop_BC => [0xC1]
  | .jp_NZ_n16 nn => encN16 0xC2 nn
  | .jp_n16 nn => encN16 0xC3 nn
  | .call_NZ_n16 nn => encN16 0xC4 nn
  | .push_BC => [0xC5]
  | .add_A_n8 n => [0xC6, n]
  | .rst_00 => [0xC7]
  | .ret_Z => [0xC8]
  | .ret => [0xC9]
  | .jp_Z_n16 nn => encN16 0xCA nn
  | .prefixCB => [0xCB]
  | .call_Z_n16 nn => encN16 0xCC nn
  | .call_n16 nn => encN16 0xCD nn
  | .adc_A_n8 n => [0xCE, n]
  | .rst_08 => [0xCF]
  | .ret_NC => [0xD0]
  | .pop_DE => [0xD1]
  | .jp_NC_n16 nn => encN16 0xD2 nn
  | .illegal op => [op]
  | .call_NC_n16 nn => encN16 0xD4 nn
  | .push_DE => [0xD5]
  | .sub_n8 n => [0xD6, n]
  | .rst_10 => [0xD7]
  | .ret_C => [0xD8]
  | .reti => [0xD9]
  | .jp_C_n16 nn => encN16 0xDA nn
  | .call_C_n16 nn => encN16 0xDC nn
  | .sbc_A_n8 n => [0xDE, n]
  | .rst_18 => [0xDF]
  | .ldh_atN8_A n => [0xE0, n]
  | .pop_HL => [0xE1]
  | .ldh_atC_A => [0xE2]
  | .push_HL => [0xE5]
  | .and_n8 n => [0xE6, n]
  | .rst_20 => [0xE7]
  | .add_SP_e8 e => [0xE8, e]
  | .jp_HL => [0xE9]
  | .ld_atN16_A nn => encN16 0xEA nn
  | .xor_n8 n => [0xEE, n]
  | .rst_28 => [0xEF]
  | .ldh_A_atN8 n => [0xF0, n]
  | .pop_AF => [0xF1]
  | .ldh_A_atC => [0xF2]
  | .di => [0xF3]
  | .push_AF => [0xF5]
  | .or_n8 n => [0xF6, n]
  | .rst_30 => [0xF7]
  | .ld_HL_SPe8 e => [0xF8, e]
  | .ld_SP_HL => [0xF9]
  | .ld_A_atN16 nn => encN16 0xFA nn
  | .ei => [0xFB]
  | .cp_n8 n => [0xFE, n]
  | .rst_38 => [0xFF]
  | .rlc_B => [0xCB, 0x00]
  | .rlc_C => [0xCB, 0x01]
  | .rlc_D => [0xCB, 0x02]
  | .rlc_E => [0xCB, 0x03]
  | .rlc_H => [0xCB, 0x04]
  | .rlc_L => [0xCB, 0x05]
  | .rlc_atHL => [0xCB, 0x06]
  | .rlc_A => [0xCB, 0x07]
  | .rrc_B => [0xCB, 0x08]
  | .rrc_C => [0xCB, 0x09]
  | .rrc_D => [0xCB, 0x0A]
  | .rrc_E => [0xCB, 0x0B]
  | .rrc_H => [0xCB, 0x0C]
  | .rrc_L => [0xCB, 0x0D]
  | .rrc_atHL => [0xCB, 0x0E]
  | .rrc_A => [0xCB, 0x0F]
  | .rl_B => [0xCB, 0x10]
  | .rl_C => [0xCB, 0x11]
  | .rl_D => [0xCB, 0x12]
  | .rl_E => [0xCB, 0x13]
  | .rl_H => [0xCB, 0x14]
  | .rl_L => [0xCB, 0x15]
  | .rl_atHL => [0xCB, 0x16]
  | .rl_A => [0xCB, 0x17]
  | .rr_B => [0xCB, 0x18]
  | .rr_C => [0xCB, 0x19]
  | .rr_D => [0xCB, 0x1A]
  | .rr_E => [0xCB, 0x1B]
  | .rr_H => [0xCB, 0x1C]
  | .rr_L => [0xCB, 0x1D]
  | .rr_atHL => [0xCB, 0x1E]
  | .rr_A => [0xCB, 0x1F]
  | .sla_B => [0xCB, 0x20]
  | .sla_C => [0xCB, 0x21]
  | .sla_D => [0xCB, 0x22]
  | .sla_E => [0xCB, 0x23]
  | .sla_H => [0xCB, 0x24]
  | .sla_L => [0xCB, 0x25]
  | .sla_atHL => [0xCB, 0x26]
  | .sla_A => [0xCB, 0x27]
  | .sra_B => [0xCB, 0x28]
  | .sra_C => [0xCB, 0x29]
  | .sra_D => [0xCB, 0x2A]
  | .sra_E => [0xCB, 0x2B]
  | .sra_H => [0xCB, 0x2C]
  | .sra_L => [0xCB, 0x2D]
  | .sra_atHL => [0xCB, 0x2E]
  | .sra_A => [0xCB, 0x2F]
  | .swap_B => [0xCB, 0x30]
  | .swap_C => [0xCB, 0x31]
  | .swap_D => [0xCB, 0x32]
  | .swap_E => [0xCB, 0x33]
  | .swap_H => [0xCB, 0x34]
  | .swap_L => [0xCB, 0x35]
  | .swap_atHL => [0xCB, 0x36]
  | .swap_A => [0xCB, 0x37]
  | .srl_B => [0xCB, 0x38]
  | .srl_C => [0xCB, 0x39]
  | .srl_D => [0xCB, 0x3A]
  | .srl_E => [0xCB, 0x3B]
  | .srl_H => [0xCB, 0x3C]
  | .srl_L => [0xCB, 0x3D]
  | .srl_atHL => [0xCB, 0x3E]
  | .srl_A => [0xCB, 0x3F]
  | .bit_0_B => [0xCB, 0x40]
  | .bit_0_C => [0xCB, 0x41]
  | .bit_0_D => [0xCB, 0x42]
  | .bit_0_E => [0xCB, 0x43]
  | .bit_0_H => [0xCB, 0x44]
  | .bit_0_L => [0xCB, 0x45]
  | .bit_0_atHL => [0xCB, 0x46]
  | .bit_0_A => [0xCB, 0x47]
  | .bit_1_B => [0xCB, 0x48]
  | .bit_1_C => [0xCB, 0x49]
  | .bit_1_D => [0xCB, 0x4A]
  | .bit_1_E => [0xCB, 0x4B]
  | .bit_1_H => [0xCB, 0x4C]
  | .bit_1_L => [0xCB, 0x4D]
  | .bit_1_atHL => [0xCB, 0x4E]
  | .bit_1_A => [0xCB, 0x4F]
  | .bit_2_B => [0xCB, 0x50]
  | .bit_2_C => [0xCB, 0x51]
  | .bit_2_D => [0xCB, 0x52]
  | .bit_2_E => [0xCB, 0x53]
  | .bit_2_H => [0xCB, 0x54]
  | .bit_2_L => [0xCB, 0x55]
  | .bit_2_atHL => [0xCB, 0x56]
  | .bit_2_A => [0xCB, 0x57]
  | .bit_3_B => [0xCB, 0x58]
  | .bit_3_C => [0xCB, 0x59]
  | .bit_3_D => [0xCB, 0x5A]
  | .bit_3_E => [0xCB, 0x5B]
  | .bit_3_H => [0xCB, 0x5C]
  | .bit_3_L => [0xCB, 0x5D]
  | .bit_3_atHL => [0xCB, 0x5E]
  | .bit_3_A => [0xCB, 0x5F]
  | .bit_4_B => [0xCB, 0x60]
  | .bit_4_C => [0xCB, 0x61]
  | .bit_4_D => [0xCB, 0x62]
  | .bit_4_E => [0xCB, 0x63]
  | .bit_4_H => [0xCB, 0x64]
  | .bit_4_L => [0xCB, 0x65]
  | .bit_4_atHL => [0xCB, 0x66]
  | .bit_4_A => [0xCB, 0x67]
  | .bit_5_B => [0xCB, 0x68]
  | .bit_5_C => [0xCB, 0x69]
  | .bit_5_D => [0xCB, 0x6A]
  | .bit_5_E => [0xCB, 0x6B]
  | .bit_5_H => [0xCB, 0x6C]
  | .bit_5_L => [0xCB, 0x6D]
  | .bit_5_atHL => [0xCB, 0x6E]
  | .bit_5_A => [0xCB, 0x6F]
  | .bit_6_B => [0xCB, 0x70]
  | .bit_6_C => [0xCB, 0x71]
  | .bit_6_D => [0xCB, 0x72]
  | .bit_6_E => [0xCB, 0x73]
  | .bit_6_H => [0xCB, 0x74]
  | .bit_6_L => [0xCB, 0x75]
  | .bit_6_atHL => [0xCB, 0x76]
  | .bit_6_A => [0xCB, 0x77]
  | .bit_7_B => [0xCB, 0x78]
  | .bit_7_C => [0xCB, 0x79]
  | .bit_7_D => [0xCB, 0x7A]
  | .bit_7_E => [0xCB, 0x7B]
  | .bit_7_H => [0xCB, 0x7C]
  | .bit_7_L => [0xCB, 0x7D]
  | .bit_7_atHL => [0xCB, 0x7E]
  | .bit_7_A => [0xCB, 0x7F]
  | .res_0_B => [0xCB, 0x80]
  | .res_0_C => [0xCB, 0x81]
  | .res_0_D => [0xCB, 0x82]
  | .res_0_E => [0xCB, 0x83]
  | .res_0_H => [0xCB, 0x84]
  | .res_0_L => [0xCB, 0x85]
  | .res_0_atHL => [0xCB, 0x86]
  | .res_0_A => [0xCB, 0x87]
  | .res_1_B => [0xCB, 0x88]
  | .res_1_C => [0xCB, 0x89]
  | .res_1_D => [0xCB, 0x8A]
  | .res_1_E => [0xCB, 0x8B]
  | .res_1_H => [0xCB, 0x8C]
  | .res_1_L => [0xCB, 0x8D]
  | .res_1_atHL => [0xCB, 0x8E]
  | .res_1_A => [0xCB, 0x8F]
  | .res_2_B => [0xCB, 0x90]
  | .res_2_C => [0xCB, 0x91]
  | .res_2_D => [0xCB, 0x92]
  | .res_2_E => [0xCB, 0x93]
  | .res_2_H => [0xCB, 0x94]
  | .res_2_L => [0xCB, 0x95]
  | .res_2_atHL => [0xCB, 0x96]
  | .res_2_A => [0xCB, 0x97]
  | .res_3_B => [0xCB, 0x98]
  | .res_3_C => [0xCB, 0x99]
  | .res_3_D => [0xCB, 0x9A]
  | .res_3_E => [0xCB, 0x9B]
  | .res_3_H => [0xCB, 0x9C]
  | .res_3_L => [0xCB, 0x9D]
  | .res_3_atHL => [0xCB, 0x9E]
  | .res_3_A => [0xCB, 0x9F]
  | .res_4_B => [0xCB, 0xA0]
  | .res_4_C => [0xCB, 0xA1]
  | .res_4_D => [0xCB, 0xA2]
  | .res_4_E => [0xCB, 0xA3]
  | .res_4_H => [0xCB, 0xA4]
  | .res_4_L => [0xCB, 0xA5]
  | .res_4_atHL => [0xCB, 0xA6]
  | .res_4_A => [0xCB, 0xA7]
  | .res_5_B => [0xCB, 0xA8]
  | .res_5_C => [0xCB, 0xA9]
  | .res_5_D => [0xCB, 0xAA]
  | .res_5_E => [0xCB, 0xAB]
  | .res_5_H => [0xCB, 0xAC]
  | .res_5_L => [0xCB, 0xAD]
  | .res_5_atHL => [0xCB, 0xAE]
  | .res_5_A => [0xCB, 0xAF]
  | .res_6_B => [0xCB, 0xB0]
  | .res_6_C => [0xCB, 0xB1]
  | .res_6_D => [0xCB, 0xB2]
  | .res_6_E => [0xCB, 0xB3]
  | .res_6_H => [0xCB, 0xB4]
  | .res_6_L => [0xCB, 0xB5]
  | .res_6_atHL => [0xCB, 0xB6]
  | .res_6_A => [0xCB, 0xB7]
  | .res_7_B => [0xCB, 0xB8]
  | .res_7_C => [0xCB, 0xB9]
  | .res_7_D => [0xCB, 0xBA]
  | .res_7_E => [0xCB, 0xBB]
  | .res_7_H => [0xCB, 0xBC]
  | .res_7_L => [0xCB, 0xBD]
  | .res_7_atHL => [0xCB, 0xBE]
  | .res_7_A => [0xCB, 0xBF]
  | .set_0_B => [0xCB, 0xC0]
  | .set_0_C => [0xCB, 0xC1]
  | .set_0_D => [0xCB, 0xC2]
  | .set_0_E => [0xCB, 0xC3]
  | .set_0_H => [0xCB, 0xC4]
  | .set_0_L => [0xCB, 0xC5]
  | .set_0_atHL => [0xCB, 0xC6]
  | .set_0_A => [0xCB, 0xC7]
  | .set_1_B => [0xCB, 0xC8]
  | .set_1_C => [0xCB, 0xC9]
  | .set_1_D => [0xCB, 0xCA]
  | .set_1_E => [0xCB, 0xCB]
  | .set_1_H => [0xCB, 0xCC]
  | .set_1_L => [0xCB, 0xCD]
  | .set_1_atHL => [0xCB, 0xCE]
  | .set_1_A => [0xCB, 0xCF]
  | .set_2_B => [0xCB, 0xD0]
  | .set_2_C => [0xCB, 0xD1]
  | .set_2_D => [0xCB, 0xD2]
  | .set_2_E => [0xCB, 0xD3]
  | .set_2_H => [0xCB, 0xD4]
  | .set_2_L => [0xCB, 0xD5]
  | .set_2_atHL => [0xCB, 0xD6]
  | .set_2_A => [0xCB, 0xD7]
  | .set_3_B => [0xCB, 0xD8]
  | .set_3_C => [0xCB, 0xD9]
  | .set_3_D => [0xCB, 0xDA]
  | .set_3_E => [0xCB, 0xDB]
  | .set_3_H => [0xCB, 0xDC]
  | .set_3_L => [0xCB, 0xDD]
  | .set_3_atHL => [0xCB, 0xDE]
  | .set_3_A => [0xCB, 0xDF]
  | .set_4_B => [0xCB, 0xE0]
  | .set_4_C => [0xCB, 0xE1]
  | .set_4_D => [0xCB, 0xE2]
  | .set_4_E => [0xCB, 0xE3]
  | .set_4_H => [0xCB, 0xE4]
  | .set_4_L => [0xCB, 0xE5]
  | .set_4_atHL => [0xCB, 0xE6]
  | .set_4_A => [0xCB, 0xE7]
  | .set_5_B => [0xCB, 0xE8]
  | .set_5_C => [0xCB, 0xE9]
  | .set_5_D => [0xCB, 0xEA]
  | .set_5_E => [0xCB, 0xEB]
  | .set_5_H => [0xCB, 0xEC]
  | .set_5_L => [0xCB, 0xED]
  | .set_5_atHL => [0xCB, 0xEE]
  | .set_5_A => [0xCB, 0xEF]
  | .set_6_B => [0xCB, 0xF0]
  | .set_6_C => [0xCB, 0xF1]
  | .set_6_D => [0xCB, 0xF2]
  | .set_6_E => [0xCB, 0xF3]
  | .set_6_H => [0xCB, 0xF4]
  | .set_6_L => [0xCB, 0xF5]
  | .set_6_atHL => [0xCB, 0xF6]
  | .set_6_A => [0xCB, 0xF7]
  | .set_7_B => [0xCB, 0xF8]
  | .set_7_C => [0xCB, 0xF9]
  | .set_7_D => [0xCB, 0xFA]
  | .set_7_E => [0xCB, 0xFB]
  | .set_7_H => [0xCB, 0xFC]
  | .set_7_L => [0xCB, 0xFD]
  | .set_7_atHL => [0xCB, 0xFE]
  | .set_7_A => [0xCB, 0xFF]

/-- The length in bytes of an instruction (R140). -/
def Instr.length (i : Instr) : Nat := (encode i).length

end Sys2Proof
end

