-- ==== Sys2Proof/Machine/Flags.lean ====
section
/-! DEFINITION. Every flag computation of the instruction set, with the result it goes with (R27, R261). -/

namespace Sys2Proof.Machine

/-- The flag byte F: Z, N, H, C in bits 7 to 4, zeros below (R27). -/
def Flags.toByte (f : Flags) : Byte :=
  BitVec.ofBool f.z ++ BitVec.ofBool f.n ++ BitVec.ofBool f.h ++ BitVec.ofBool f.c ++ (0 : BitVec 4)

/-- The flags of a byte written to F: its low nibble is dropped (R27). -/
def Flags.ofByte (v : Byte) : Flags := { z := v.getLsbD 7, n := v.getLsbD 6, h := v.getLsbD 5, c := v.getLsbD 4 }

/-- The low nibble of a byte, as a number. -/
def nibble (v : Byte) : Nat := v.toNat % 16

/-- `n > limit`, written so that it is decided by recursion on `n`. -/
def exceeds (n limit : Nat) : Bool := !decide (n ≤ limit)

/-- `a + v + c` with the flags of an addition (R241, R242). -/
def addByte (a v : Byte) (c : Bool) : Byte × Flags :=
  let s := a.toNat + v.toNat + c.toNat
  let r := BitVec.ofNat 8 s
  (r, { z := decide (r = 0), n := false, h := exceeds (nibble a + nibble v + c.toNat) 0x0F, c := exceeds s 0xFF })

/-- `a - v - c` with the flags of a subtraction (R243, R244). -/
def subByte (a v : Byte) (c : Bool) : Byte × Flags :=
  let r := a - v - (BitVec.ofBool c).zeroExtend 8
  (r, { z := decide (r = 0), n := true, h := decide (nibble a < nibble v + c.toNat),
        c := decide (a.toNat < v.toNat + c.toNat) })

/-- A logical result with its flags; `h` is 1 for `AND` only (R245 to R247). -/
def logicByte (r : Byte) (h : Bool) : Byte × Flags := (r, { z := decide (r = 0), n := false, h := h, c := false })

/-- An accumulator operation on A and `v` under the old flags: the new A and flags (R241 to R248). -/
def aluByte (op : AluOp) (f : Flags) (a v : Byte) : Byte × Flags :=
  match op with
  | .add => addByte a v false
  | .adc => addByte a v f.c
  | .sub => subByte a v false
  | .sbc => subByte a v f.c
  | .and => logicByte (a &&& v) true
  | .xor => logicByte (a ^^^ v) false
  | .or => logicByte (a ||| v) false
  | .cp => (a, (subByte a v false).2)

/-- `v + 1`; the carry is kept (R249). -/
def incByte (f : Flags) (v : Byte) : Byte × Flags :=
  let r := v + 1
  (r, { z := decide (r = 0), n := false, h := decide (nibble v = 0x0F), c := f.c })

/-- `v - 1`; the carry is kept (R251). -/
def decByte (f : Flags) (v : Byte) : Byte × Flags :=
  let r := v - 1
  (r, { z := decide (r = 0), n := true, h := decide (nibble v = 0), c := f.c })

/-- The correction `DAA` makes, an integer before the final reduction, and the new carry (R253). -/
def daaInt (f : Flags) (a : Byte) : Int × Bool :=
  if f.n then
    let x : Int := if f.c then (a.toNat : Int) - 0x60 else a.toNat
    (if f.h then x - 0x06 else x, f.c)
  else
    let high := f.c || exceeds a.toNat 0x99
    let x : Int := if high then (a.toNat : Int) + 0x60 else a.toNat
    (if f.h || decide (x % 16 > 0x09) then x + 0x06 else x, high)

/-- `DAA` (R253). -/
def daaByte (f : Flags) (a : Byte) : Byte × Flags :=
  let r := BitVec.ofInt 8 (daaInt f a).1
  (r, { z := decide (r = 0), n := f.n, h := false, c := (daaInt f a).2 })

/-- `CPL` (R254). -/
def cplByte (f : Flags) (a : Byte) : Byte × Flags := (a ^^^ 0xFF, { f with n := true, h := true })

/-- `SCF` (R255). -/
def scfFlags (f : Flags) : Flags := { f with n := false, h := false, c := true }

/-- `CCF` (R256). -/
def ccfFlags (f : Flags) : Flags := { f with n := false, h := false, c := !f.c }

/-- `ADD HL,rr`: 16-bit sum, Z kept (R257). -/
def addWord (f : Flags) (hl v : Word) : Word × Flags :=
  (hl + v,
    { z := f.z, n := false, h := exceeds (hl.toNat % 4096 + v.toNat % 4096) 0x0FFF,
      c := exceeds (hl.toNat + v.toNat) 0xFFFF })

/-- SP plus a signed byte; the carries are those of the unsigned sum of the low byte (R234, R260). -/
def spPlus (sp : Word) (e : Byte) : Word × Flags :=
  (sp + e.signExtend 16,
    { z := false, n := false, h := exceeds (sp.toNat % 16 + nibble e) 0x0F,
      c := exceeds (sp.toNat % 256 + e.toNat) 0xFF })

/-- A rotate or shift by one position: the result and the bit that goes to the carry (R275 to R282). -/
def rotByte (rot : RotOp) (c : Bool) (v : Byte) : Byte × Bool :=
  match rot with
  | .rlc => (v.extractLsb' 0 7 ++ v.extractLsb' 7 1, v.getLsbD 7)
  | .rrc => (v.extractLsb' 0 1 ++ v.extractLsb' 1 7, v.getLsbD 0)
  | .rl => (v.extractLsb' 0 7 ++ BitVec.ofBool c, v.getLsbD 7)
  | .rr => (BitVec.ofBool c ++ v.extractLsb' 1 7, v.getLsbD 0)
  | .sla => (v.extractLsb' 0 7 ++ (0 : BitVec 1), v.getLsbD 7)
  | .sra => (v.extractLsb' 7 1 ++ v.extractLsb' 1 7, v.getLsbD 0)
  | .swap => (v.extractLsb' 0 4 ++ v.extractLsb' 4 4, false)
  | .srl => ((0 : BitVec 1) ++ v.extractLsb' 1 7, v.getLsbD 0)

/-- The flags of an extended rotate or shift: Z from the result (R275 to R282). -/
def rotFlags (r : Byte) (c : Bool) : Flags := { z := decide (r = 0), n := false, h := false, c := c }

/-- The flags of an accumulator rotate: Z is 0 (R270 to R273). -/
def accRotFlags (c : Bool) : Flags := { z := false, n := false, h := false, c := c }

/-- The flags of `BIT b`: Z is the complement of the bit, the carry is kept (R283). -/
def bitFlags (f : Flags) (b : Oct) (v : Byte) : Flags := { z := !v.getLsbD b.toNat, n := false, h := true, c := f.c }

/-- The result of `RES b` (R284). -/
def resByte (b : Oct) (v : Byte) : Byte := v &&& ~~~((1 : Byte) <<< b.toNat)

/-- The result of `SET b` (R285). -/
def setByte (b : Oct) (v : Byte) : Byte := v ||| ((1 : Byte) <<< b.toNat)

end Sys2Proof.Machine
end

