-- ==== Sys2Proof/Machine/Ops.lean ====
section
/-! DEFINITION. The named operations over registers and memory that the meanings share (R11), taking an interrupt and
returning from one (R485, R300). -/

namespace Sys2Proof.Machine

/-- What an instruction answers. -/
abbrev StepResult := Host.Outcome State Fault Refusal

namespace State

/-- Replace the CPU. -/
def setCpu (s : State) (c : Cpu) : State := { s with cpu := c }

/-- A general register (R25, R143). -/
def reg (s : State) (r : Reg8) : Byte :=
  match r with
  | .b => s.cpu.b
  | .c => s.cpu.c
  | .d => s.cpu.d
  | .e => s.cpu.e
  | .h => s.cpu.h
  | .l => s.cpu.l
  | .a => s.cpu.a

/-- Write a general register. -/
def setReg (s : State) (r : Reg8) (v : Byte) : State :=
  match r with
  | .b => s.setCpu { s.cpu with b := v }
  | .c => s.setCpu { s.cpu with c := v }
  | .d => s.setCpu { s.cpu with d := v }
  | .e => s.setCpu { s.cpu with e := v }
  | .h => s.setCpu { s.cpu with h := v }
  | .l => s.setCpu { s.cpu with l := v }
  | .a => s.setCpu { s.cpu with a := v }

/-- Write the flags. -/
def setFlags (s : State) (f : Flags) : State := s.setCpu { s.cpu with f := f }

/-- Write SP. -/
def setSp (s : State) (v : Word) : State := s.setCpu { s.cpu with sp := v }

/-- Write PC: a control transfer (R11). -/
def setPc (s : State) (v : Word) : State := s.setCpu { s.cpu with pc := v }

/-- The pair HL (R26). -/
def hl (s : State) : Word := Word.ofBytes s.cpu.h s.cpu.l

/-- Write HL: both halves (R26). -/
def setHl (s : State) (v : Word) : State := s.setCpu { s.cpu with h := v.hi, l := v.lo }

/-- A register pair or SP (R26, R144). -/
def pair (s : State) (p : Pair) : Word :=
  match p with
  | .bc => Word.ofBytes s.cpu.b s.cpu.c
  | .de => Word.ofBytes s.cpu.d s.cpu.e
  | .hl => s.hl
  | .sp => s.cpu.sp

/-- Write a register pair or SP. -/
def setPair (s : State) (p : Pair) (v : Word) : State :=
  match p with
  | .bc => s.setCpu { s.cpu with b := v.hi, c := v.lo }
  | .de => s.setCpu { s.cpu with d := v.hi, e := v.lo }
  | .hl => s.setHl v
  | .sp => s.setSp v

/-- A pair of `PUSH`: AF is A over the flag byte (R26, R145). -/
def stackPair (s : State) (q : StackPair) : Word :=
  match q with
  | .bc => s.pair .bc
  | .de => s.pair .de
  | .hl => s.pair .hl
  | .af => Word.ofBytes s.cpu.a s.cpu.f.toByte

/-- Write a pair of `POP`: F takes the high nibble of the low byte (R27, R145, R233). -/
def setStackPair (s : State) (q : StackPair) (v : Word) : State :=
  match q with
  | .bc => s.setPair .bc v
  | .de => s.setPair .de v
  | .hl => s.setPair .hl v
  | .af => s.setCpu { s.cpu with a := v.hi, f := Flags.ofByte v.lo }

/-- `fetch8()`: the byte at PC, and PC moved past it (R11, R194). -/
def fetch8 (s : State) : Byte × State := (s.busRead s.cpu.pc, s.setPc (s.cpu.pc + 1))

/-- `MemRead(addr, 2)`, low address first (R11, R81). -/
def memRead16 (s : State) (a : Word) : Word := Word.ofBytes (s.busRead (a + 1)) (s.busRead a)

/-- `MemWrite(addr, 2, v)`, low address first (R11, R81). -/
def memWrite16 (s : State) (a v : Word) : State := (s.busWrite a v.lo).busWrite (a + 1) v.hi

/-- `push16(v)`: the high byte below SP, then the low byte below that (R11, R232). -/
def push16 (s : State) (v : Word) : State :=
  let s := s.setSp (s.cpu.sp - 1)
  let s := s.busWrite s.cpu.sp v.hi
  let s := s.setSp (s.cpu.sp - 1)
  s.busWrite s.cpu.sp v.lo

/-- `pop16()`: the word at SP, and SP moved past it (R11, R233). -/
def pop16 (s : State) : Word × State := (s.memRead16 s.cpu.sp, s.setSp (s.cpu.sp + 2))

/-- An instruction is complete: charge its machine cycles (R196). -/
def done (s : State) (mcycles : Nat) : StepResult := .next (s.charge mcycles)

/-- IME and the delayed enable (R30, R31). -/
def setIme (s : State) (ime pending : Bool) : State := s.setCpu { s.cpu with ime := ime, imePending := pending }

end State

/-- `INT_SERVICE_MCYCLES` (R8, R485). -/
def intServiceMcycles : Nat := 5

/-- The vector of interrupt `i` (R481, R485, R486). -/
def intVector (i : Nat) : Word := BitVec.ofNat 16 (0x0040 + 8 * i)

namespace State

/-- Clear pending flag `i` (R485). -/
def acknowledge (s : State) (i : Nat) : State :=
  { s with irq := { s.irq with pending := s.irq.pending &&& ~~~((1 : BitVec 5) <<< i) } }

/-- `ServiceInterrupt(i)`: taking an interrupt. IME and the delayed enable go to 0, the pending flag is cleared, PC is
pushed, control goes to the vector, five machine cycles are charged (R485, R489). -/
def serviceInterrupt (s : State) (i : Nat) : State :=
  let s := (s.setIme false false).acknowledge i
  let s := s.push16 s.cpu.pc
  (s.setPc (intVector i)).charge intServiceMcycles

/-- Returning from an interrupt: PC is popped and IME is 1 at once (R300, R490). -/
def returnFromInterrupt (s : State) : State :=
  let (a, s) := s.pop16
  (s.setPc a).setIme true false

/-- The pending and enabled interrupts, `IE & IF & 0x1F` (R191). -/
def serviceable (s : State) : BitVec 5 := s.irq.enable &&& s.irq.pending

end State

/-- The lowest set bit, the highest priority (R487). -/
def lowestSet (v : BitVec 5) : Nat :=
  if v.getLsbD 0 then 0 else if v.getLsbD 1 then 1 else if v.getLsbD 2 then 2 else if v.getLsbD 3 then 3 else 4

end Sys2Proof.Machine
end

