-- ==== Sys2Proof/Machine/Operands.lean ====
section
/-! DEFINITION. Operand forms: where the address of a memory operand comes from, conditions, branch targets. -/

namespace Sys2Proof.Machine

/-- An address of the high page 0xFF00 to 0xFFFF (R221 to R224). -/
def highPage (n : Byte) : Word := Word.ofBytes 0xFF n

/-- The target of a relative jump from the address of the next instruction (R293). -/
def jrTarget (pc : Word) (e : Byte) : Word := pc + e.signExtend 16

/-- The target of `RST t` (R303). -/
def rstTarget (t : Oct) : Word := BitVec.ofNat 16 (8 * t.toNat)

/-- A condition holds on the flags (R146, R290). -/
def condHolds (cc : Cond) (f : Flags) : Bool :=
  match cc with
  | .nz => !f.z
  | .z => f.z
  | .nc => !f.c
  | .c => f.c

namespace State

/-- The byte at HL (R143, value 6). -/
def readHl (s : State) : Byte := s.busRead s.hl

/-- Write the byte at HL. -/
def writeHl (s : State) (v : Byte) : State := s.busWrite s.hl v

/-- Write A. -/
def setA (s : State) (v : Byte) : State := s.setReg .a v

/-- Write A and the flags together. -/
def setAF (s : State) (r : Byte × Flags) : State := (s.setA r.1).setFlags r.2

/-- A taken transfer that pushes the return address (R296, R303). -/
def callTo (s : State) (target : Word) : State := (s.push16 s.cpu.pc).setPc target

/-- A taken return (R298). -/
def returnTo (s : State) : State :=
  let (a, s) := s.pop16
  s.setPc a

end State

end Sys2Proof.Machine
end

