-- ==== Sys2Proof/Machine/Alu.lean ====
section
/-! DEFINITION. The arithmetic and logic family (43_cpu_alu.md): the shared forms, then one meaning per instruction. -/

namespace Sys2Proof.Machine

/-- An accumulator operation on `v` (R240 to R248). -/
def runAlu (op : AluOp) (v : Byte) (mcycles : Nat) (s : State) : StepResult :=
  (s.setAF (aluByte op s.cpu.f s.cpu.a v)).done mcycles

/-- The form with a register operand (R240). -/
def runAluR (op : AluOp) (r : Reg8) (s : State) : StepResult := runAlu op (s.reg r) 1 s

/-- The form with the byte at HL (R240). -/
def runAluM (op : AluOp) (s : State) : StepResult := runAlu op s.readHl 2 s

/-- The form with an immediate byte (R240). -/
def runAluN (op : AluOp) (n : Byte) (s : State) : StepResult := runAlu op n 2 s

/-- `INC r` (R249). -/
def runIncR (r : Reg8) (s : State) : StepResult :=
  let x := incByte s.cpu.f (s.reg r)
  ((s.setReg r x.1).setFlags x.2).done 1

/-- `INC (HL)` (R250). -/
def runIncM (s : State) : StepResult :=
  let x := incByte s.cpu.f s.readHl
  ((s.writeHl x.1).setFlags x.2).done 3

/-- `DEC r` (R251). -/
def runDecR (r : Reg8) (s : State) : StepResult :=
  let x := decByte s.cpu.f (s.reg r)
  ((s.setReg r x.1).setFlags x.2).done 1

/-- `DEC (HL)` (R252). -/
def runDecM (s : State) : StepResult :=
  let x := decByte s.cpu.f s.readHl
  ((s.writeHl x.1).setFlags x.2).done 3

/-- `ADD HL,rr` (R257). -/
def runAddHL (p : Pair) (s : State) : StepResult :=
  let x := addWord s.cpu.f s.hl (s.pair p)
  ((s.setHl x.1).setFlags x.2).done 2

/-- `INC rr` (R258). -/
def runIncPair (p : Pair) (s : State) : StepResult := (s.setPair p (s.pair p + 1)).done 2

/-- `DEC rr` (R259). -/
def runDecPair (p : Pair) (s : State) : StepResult := (s.setPair p (s.pair p - 1)).done 2

/-- `ADD SP,e` (R260). -/
def runAddSPe (e : Byte) (s : State) : StepResult :=
  let x := spPlus s.cpu.sp e
  ((s.setSp x.1).setFlags x.2).done 4

/-- `DAA` (R253). -/
def runDaa (s : State) : StepResult := (s.setAF (daaByte s.cpu.f s.cpu.a)).done 1

/-- `CPL` (R254). -/
def runCpl (s : State) : StepResult := (s.setAF (cplByte s.cpu.f s.cpu.a)).done 1

/-- `SCF` (R255). -/
def runScf (s : State) : StepResult := (s.setFlags (scfFlags s.cpu.f)).done 1

/-- `CCF` (R256). -/
def runCcf (s : State) : StepResult := (s.setFlags (ccfFlags s.cpu.f)).done 1

/-! The instructions. -/

/-- `INC BC` (R258). -/
def execInc_BC (s : State) : StepResult := runIncPair .bc s

/-- `INC B` (R249). -/
def execInc_B (s : State) : StepResult := runIncR .b s

/-- `DEC B` (R251). -/
def execDec_B (s : State) : StepResult := runDecR .b s

/-- `ADD HL,BC` (R257). -/
def execAdd_HL_BC (s : State) : StepResult := runAddHL .bc s

/-- `DEC BC` (R259). -/
def execDec_BC (s : State) : StepResult := runDecPair .bc s

/-- `INC C` (R249). -/
def execInc_C (s : State) : StepResult := runIncR .c s

/-- `DEC C` (R251). -/
def execDec_C (s : State) : StepResult := runDecR .c s

/-- `INC DE` (R258). -/
def execInc_DE (s : State) : StepResult := runIncPair .de s

/-- `INC D` (R249). -/
def execInc_D (s : State) : StepResult := runIncR .d s

/-- `DEC D` (R251). -/
def execDec_D (s : State) : StepResult := runDecR .d s

/-- `ADD HL,DE` (R257). -/
def execAdd_HL_DE (s : State) : StepResult := runAddHL .de s

/-- `DEC DE` (R259). -/
def execDec_DE (s : State) : StepResult := runDecPair .de s

/-- `INC E` (R249). -/
def execInc_E (s : State) : StepResult := runIncR .e s

/-- `DEC E` (R251). -/
def execDec_E (s : State) : StepResult := runDecR .e s

/-- `INC HL` (R258). -/
def execInc_HL (s : State) : StepResult := runIncPair .hl s

/-- `INC H` (R249). -/
def execInc_H (s : State) : StepResult := runIncR .h s

/-- `DEC H` (R251). -/
def execDec_H (s : State) : StepResult := runDecR .h s

/-- `DAA` (R253). -/
def execDaa (s : State) : StepResult := runDaa s

/-- `ADD HL,HL` (R257). -/
def execAdd_HL_HL (s : State) : StepResult := runAddHL .hl s

/-- `DEC HL` (R259). -/
def execDec_HL (s : State) : StepResult := runDecPair .hl s

/-- `INC L` (R249). -/
def execInc_L (s : State) : StepResult := runIncR .l s

/-- `DEC L` (R251). -/
def execDec_L (s : State) : StepResult := runDecR .l s

/-- `CPL` (R254). -/
def execCpl (s : State) : StepResult := runCpl s

/-- `INC SP` (R258). -/
def execInc_SP (s : State) : StepResult := runIncPair .sp s

/-- `INC (HL)` (R250). -/
def execInc_atHL (s : State) : StepResult := runIncM s

/-- `DEC (HL)` (R252). -/
def execDec_atHL (s : State) : StepResult := runDecM s

/-- `SCF` (R255). -/
def execScf (s : State) : StepResult := runScf s

/-- `ADD HL,SP` (R257). -/
def execAdd_HL_SP (s : State) : StepResult := runAddHL .sp s

/-- `DEC SP` (R259). -/
def execDec_SP (s : State) : StepResult := runDecPair .sp s

/-- `INC A` (R249). -/
def execInc_A (s : State) : StepResult := runIncR .a s

/-- `DEC A` (R251). -/
def execDec_A (s : State) : StepResult := runDecR .a s

/-- `CCF` (R256). -/
def execCcf (s : State) : StepResult := runCcf s

/-- `ADD A,B` (R241). -/
def execAdd_A_B (s : State) : StepResult := runAluR .add .b s

/-- `ADD A,C` (R241). -/
def execAdd_A_C (s : State) : StepResult := runAluR .add .c s

/-- `ADD A,D` (R241). -/
def execAdd_A_D (s : State) : StepResult := runAluR .add .d s

/-- `ADD A,E` (R241). -/
def execAdd_A_E (s : State) : StepResult := runAluR .add .e s

/-- `ADD A,H` (R241). -/
def execAdd_A_H (s : State) : StepResult := runAluR .add .h s

/-- `ADD A,L` (R241). -/
def execAdd_A_L (s : State) : StepResult := runAluR .add .l s

/-- `ADD A,(HL)` (R241). -/
def execAdd_A_atHL (s : State) : StepResult := runAluM .add s

/-- `ADD A,A` (R241). -/
def execAdd_A_A (s : State) : StepResult := runAluR .add .a s

/-- `ADC A,B` (R242). -/
def execAdc_A_B (s : State) : StepResult := runAluR .adc .b s

/-- `ADC A,C` (R242). -/
def execAdc_A_C (s : State) : StepResult := runAluR .adc .c s

/-- `ADC A,D` (R242). -/
def execAdc_A_D (s : State) : StepResult := runAluR .adc .d s

/-- `ADC A,E` (R242). -/
def execAdc_A_E (s : State) : StepResult := runAluR .adc .e s

/-- `ADC A,H` (R242). -/
def execAdc_A_H (s : State) : StepResult := runAluR .adc .h s

/-- `ADC A,L` (R242). -/
def execAdc_A_L (s : State) : StepResult := runAluR .adc .l s

/-- `ADC A,(HL)` (R242). -/
def execAdc_A_atHL (s : State) : StepResult := runAluM .adc s

/-- `ADC A,A` (R242). -/
def execAdc_A_A (s : State) : StepResult := runAluR .adc .a s

/-- `SUB B` (R243). -/
def execSub_B (s : State) : StepResult := runAluR .sub .b s

/-- `SUB C` (R243). -/
def execSub_C (s : State) : StepResult := runAluR .sub .c s

/-- `SUB D` (R243). -/
def execSub_D (s : State) : StepResult := runAluR .sub .d s

/-- `SUB E` (R243). -/
def execSub_E (s : State) : StepResult := runAluR .sub .e s

/-- `SUB H` (R243). -/
def execSub_H (s : State) : StepResult := runAluR .sub .h s

/-- `SUB L` (R243). -/
def execSub_L (s : State) : StepResult := runAluR .sub .l s

/-- `SUB (HL)` (R243). -/
def execSub_atHL (s : State) : StepResult := runAluM .sub s

/-- `SUB A` (R243). -/
def execSub_A (s : State) : StepResult := runAluR .sub .a s

/-- `SBC A,B` (R244). -/
def execSbc_A_B (s : State) : StepResult := runAluR .sbc .b s

/-- `SBC A,C` (R244). -/
def execSbc_A_C (s : State) : StepResult := runAluR .sbc .c s

/-- `SBC A,D` (R244). -/
def execSbc_A_D (s : State) : StepResult := runAluR .sbc .d s

/-- `SBC A,E` (R244). -/
def execSbc_A_E (s : State) : StepResult := runAluR .sbc .e s

/-- `SBC A,H` (R244). -/
def execSbc_A_H (s : State) : StepResult := runAluR .sbc .h s

/-- `SBC A,L` (R244). -/
def execSbc_A_L (s : State) : StepResult := runAluR .sbc .l s

/-- `SBC A,(HL)` (R244). -/
def execSbc_A_atHL (s : State) : StepResult := runAluM .sbc s

/-- `SBC A,A` (R244). -/
def execSbc_A_A (s : State) : StepResult := runAluR .sbc .a s

/-- `AND B` (R245). -/
def execAnd_B (s : State) : StepResult := runAluR .and .b s

/-- `AND C` (R245). -/
def execAnd_C (s : State) : StepResult := runAluR .and .c s

/-- `AND D` (R245). -/
def execAnd_D (s : State) : StepResult := runAluR .and .d s

/-- `AND E` (R245). -/
def execAnd_E (s : State) : StepResult := runAluR .and .e s

/-- `AND H` (R245). -/
def execAnd_H (s : State) : StepResult := runAluR .and .h s

/-- `AND L` (R245). -/
def execAnd_L (s : State) : StepResult := runAluR .and .l s

/-- `AND (HL)` (R245). -/
def execAnd_atHL (s : State) : StepResult := runAluM .and s

/-- `AND A` (R245). -/
def execAnd_A (s : State) : StepResult := runAluR .and .a s

/-- `XOR B` (R246). -/
def execXor_B (s : State) : StepResult := runAluR .xor .b s

/-- `XOR C` (R246). -/
def execXor_C (s : State) : StepResult := runAluR .xor .c s

/-- `XOR D` (R246). -/
def execXor_D (s : State) : StepResult := runAluR .xor .d s

/-- `XOR E` (R246). -/
def execXor_E (s : State) : StepResult := runAluR .xor .e s

/-- `XOR H` (R246). -/
def execXor_H (s : State) : StepResult := runAluR .xor .h s

/-- `XOR L` (R246). -/
def execXor_L (s : State) : StepResult := runAluR .xor .l s

/-- `XOR (HL)` (R246). -/
def execXor_atHL (s : State) : StepResult := runAluM .xor s

/-- `XOR A` (R246). -/
def execXor_A (s : State) : StepResult := runAluR .xor .a s

/-- `OR B` (R247). -/
def execOr_B (s : State) : StepResult := runAluR .or .b s

/-- `OR C` (R247). -/
def execOr_C (s : State) : StepResult := runAluR .or .c s

/-- `OR D` (R247). -/
def execOr_D (s : State) : StepResult := runAluR .or .d s

/-- `OR E` (R247). -/
def execOr_E (s : State) : StepResult := runAluR .or .e s

/-- `OR H` (R247). -/
def execOr_H (s : State) : StepResult := runAluR .or .h s

/-- `OR L` (R247). -/
def execOr_L (s : State) : StepResult := runAluR .or .l s

/-- `OR (HL)` (R247). -/
def execOr_atHL (s : State) : StepResult := runAluM .or s

/-- `OR A` (R247). -/
def execOr_A (s : State) : StepResult := runAluR .or .a s

/-- `CP B` (R248). -/
def execCp_B (s : State) : StepResult := runAluR .cp .b s

/-- `CP C` (R248). -/
def execCp_C (s : State) : StepResult := runAluR .cp .c s

/-- `CP D` (R248). -/
def execCp_D (s : State) : StepResult := runAluR .cp .d s

/-- `CP E` (R248). -/
def execCp_E (s : State) : StepResult := runAluR .cp .e s

/-- `CP H` (R248). -/
def execCp_H (s : State) : StepResult := runAluR .cp .h s

/-- `CP L` (R248). -/
def execCp_L (s : State) : StepResult := runAluR .cp .l s

/-- `CP (HL)` (R248). -/
def execCp_atHL (s : State) : StepResult := runAluM .cp s

/-- `CP A` (R248). -/
def execCp_A (s : State) : StepResult := runAluR .cp .a s

/-- `ADD A,n8` (R241). -/
def execAdd_A_n8 (n : Byte) (s : State) : StepResult := runAluN .add n s

/-- `ADC A,n8` (R242). -/
def execAdc_A_n8 (n : Byte) (s : State) : StepResult := runAluN .adc n s

/-- `SUB n8` (R243). -/
def execSub_n8 (n : Byte) (s : State) : StepResult := runAluN .sub n s

/-- `SBC A,n8` (R244). -/
def execSbc_A_n8 (n : Byte) (s : State) : StepResult := runAluN .sbc n s

/-- `AND n8` (R245). -/
def execAnd_n8 (n : Byte) (s : State) : StepResult := runAluN .and n s

/-- `ADD SP,e8` (R260). -/
def execAdd_SP_e8 (e : Byte) (s : State) : StepResult := runAddSPe e s

/-- `XOR n8` (R246). -/
def execXor_n8 (n : Byte) (s : State) : StepResult := runAluN .xor n s

/-- `OR n8` (R247). -/
def execOr_n8 (n : Byte) (s : State) : StepResult := runAluN .or n s

/-- `CP n8` (R248). -/
def execCp_n8 (n : Byte) (s : State) : StepResult := runAluN .cp n s

end Sys2Proof.Machine
end

