-- ==== Sys2Proof/Machine/Control.lean ====
section
/-! DEFINITION. The control family (45_cpu_control.md): the shared forms, then one meaning per instruction. -/

namespace Sys2Proof.Machine

/-- `JP nn` (R291). -/
def runJp (nn : Word) (s : State) : StepResult := (s.setPc nn).done 4

/-- `JP cc,nn` (R290, R292). -/
def runJpCc (cc : Cond) (nn : Word) (s : State) : StepResult :=
  if condHolds cc s.cpu.f then (s.setPc nn).done 4 else s.done 3

/-- `JR e` (R293). -/
def runJr (e : Byte) (s : State) : StepResult := (s.setPc (jrTarget s.cpu.pc e)).done 3

/-- `JR cc,e` (R290, R294). -/
def runJrCc (cc : Cond) (e : Byte) (s : State) : StepResult :=
  if condHolds cc s.cpu.f then (s.setPc (jrTarget s.cpu.pc e)).done 3 else s.done 2

/-- `JP HL` (R295). -/
def runJpHL (s : State) : StepResult := (s.setPc s.hl).done 1

/-- `CALL nn` (R296). -/
def runCall (nn : Word) (s : State) : StepResult := (s.callTo nn).done 6

/-- `CALL cc,nn` (R290, R297). -/
def runCallCc (cc : Cond) (nn : Word) (s : State) : StepResult :=
  if condHolds cc s.cpu.f then (s.callTo nn).done 6 else s.done 3

/-- `RET` (R298). -/
def runRet (s : State) : StepResult := s.returnTo.done 4

/-- `RET cc` (R290, R299). -/
def runRetCc (cc : Cond) (s : State) : StepResult :=
  if condHolds cc s.cpu.f then s.returnTo.done 5 else s.done 2

/-- `RETI` (R300). -/
def runReti (s : State) : StepResult := s.returnFromInterrupt.done 4

/-- `RST t` (R303). -/
def runRst (t : Oct) (s : State) : StepResult := (s.callTo (rstTarget t)).done 4

/-- `NOP` (R305). -/
def runNop (s : State) : StepResult := s.done 1

/-- `DI` (R306). -/
def runDi (s : State) : StepResult := (s.setIme false false).done 1

/-- `EI`: delayed by one instruction, or at once with `EI_DELAY = 0` (R307). -/
def runEi (s : State) : StepResult :=
  if s.cfg.eiDelay then (if s.cpu.ime then s else s.setIme false true).done 1
  else (s.setIme true s.cpu.imePending).done 1

/-- `HALT` (R308). -/
def runHalt (s : State) : StepResult := (s.setCpu { s.cpu with halted := true }).done 1

/-- `STOP`: the operand byte is ignored; an armed CGB toggles its speed, and the cycle is charged at the new speed (R309). -/
def runStop (_n : Byte) (s : State) : StepResult :=
  if decide (s.cfg.model = .cgb) && s.cpu.speedArmed then
    (s.setCpu { s.cpu with speed := !s.cpu.speed, speedArmed := false }).done 1
  else s.done 1

/-- An opcode without a table entry: `FatalUndefinedOpcode` with the address it was fetched from, one below PC (R199, R496). -/
def runIllegal (op : Byte) (s : State) : StepResult := .fault (.undefinedOpcode op (s.cpu.pc - 1))

/-! The instructions. -/

/-- `NOP` (R305). -/
def execNop (s : State) : StepResult := runNop s

/-- `STOP` (R309). -/
def execStop (n : Byte) (s : State) : StepResult := runStop n s

/-- `JR e8` (R293). -/
def execJr_e8 (e : Byte) (s : State) : StepResult := runJr e s

/-- `JR NZ,e8` (R294). -/
def execJr_NZ_e8 (e : Byte) (s : State) : StepResult := runJrCc .nz e s

/-- `JR Z,e8` (R294). -/
def execJr_Z_e8 (e : Byte) (s : State) : StepResult := runJrCc .z e s

/-- `JR NC,e8` (R294). -/
def execJr_NC_e8 (e : Byte) (s : State) : StepResult := runJrCc .nc e s

/-- `JR C,e8` (R294). -/
def execJr_C_e8 (e : Byte) (s : State) : StepResult := runJrCc .c e s

/-- `HALT` (R308). -/
def execHalt (s : State) : StepResult := runHalt s

/-- `RET NZ` (R299). -/
def execRet_NZ (s : State) : StepResult := runRetCc .nz s

/-- `JP NZ,n16` (R292). -/
def execJp_NZ_n16 (nn : Word) (s : State) : StepResult := runJpCc .nz nn s

/-- `JP n16` (R291). -/
def execJp_n16 (nn : Word) (s : State) : StepResult := runJp nn s

/-- `CALL NZ,n16` (R297). -/
def execCall_NZ_n16 (nn : Word) (s : State) : StepResult := runCallCc .nz nn s

/-- `RST 0x00` (R303). -/
def execRst_00 (s : State) : StepResult := runRst .o0 s

/-- `RET Z` (R299). -/
def execRet_Z (s : State) : StepResult := runRetCc .z s

/-- `RET` (R298). -/
def execRet (s : State) : StepResult := runRet s

/-- `JP Z,n16` (R292). -/
def execJp_Z_n16 (nn : Word) (s : State) : StepResult := runJpCc .z nn s

/-- `CALL Z,n16` (R297). -/
def execCall_Z_n16 (nn : Word) (s : State) : StepResult := runCallCc .z nn s

/-- `CALL n16` (R296). -/
def execCall_n16 (nn : Word) (s : State) : StepResult := runCall nn s

/-- `RST 0x08` (R303). -/
def execRst_08 (s : State) : StepResult := runRst .o1 s

/-- `RET NC` (R299). -/
def execRet_NC (s : State) : StepResult := runRetCc .nc s

/-- `JP NC,n16` (R292). -/
def execJp_NC_n16 (nn : Word) (s : State) : StepResult := runJpCc .nc nn s

/-- `no table entry` (R199). -/
def execIllegal (op : Byte) (s : State) : StepResult := runIllegal op s

/-- `CALL NC,n16` (R297). -/
def execCall_NC_n16 (nn : Word) (s : State) : StepResult := runCallCc .nc nn s

/-- `RST 0x10` (R303). -/
def execRst_10 (s : State) : StepResult := runRst .o2 s

/-- `RET C` (R299). -/
def execRet_C (s : State) : StepResult := runRetCc .c s

/-- `RETI` (R300). -/
def execReti (s : State) : StepResult := runReti s

/-- `JP C,n16` (R292). -/
def execJp_C_n16 (nn : Word) (s : State) : StepResult := runJpCc .c nn s

/-- `CALL C,n16` (R297). -/
def execCall_C_n16 (nn : Word) (s : State) : StepResult := runCallCc .c nn s

/-- `RST 0x18` (R303). -/
def execRst_18 (s : State) : StepResult := runRst .o3 s

/-- `RST 0x20` (R303). -/
def execRst_20 (s : State) : StepResult := runRst .o4 s

/-- `JP HL` (R295). -/
def execJp_HL (s : State) : StepResult := runJpHL s

/-- `RST 0x28` (R303). -/
def execRst_28 (s : State) : StepResult := runRst .o5 s

/-- `DI` (R306). -/
def execDi (s : State) : StepResult := runDi s

/-- `RST 0x30` (R303). -/
def execRst_30 (s : State) : StepResult := runRst .o6 s

/-- `EI` (R307). -/
def execEi (s : State) : StepResult := runEi s

/-- `RST 0x38` (R303). -/
def execRst_38 (s : State) : StepResult := runRst .o7 s

end Sys2Proof.Machine
end

