-- ==== Sys2Proof/Machine/Load.lean ====
section
/-! DEFINITION. The load and stack family (42_cpu_load.md): the shared forms, then one meaning per instruction. A meaning starts
with PC past the whole instruction and ends with the instruction's machine cycles charged (R29, R196). -/

namespace Sys2Proof.Machine

/-- `LD r,r'` (R210). -/
def runLdRR (dst src : Reg8) (s : State) : StepResult := (s.setReg dst (s.reg src)).done 1

/-- `LD r,n` (R211). -/
def runLdRN (dst : Reg8) (n : Byte) (s : State) : StepResult := (s.setReg dst n).done 2

/-- `LD r,(HL)` (R212). -/
def runLdRM (dst : Reg8) (s : State) : StepResult := (s.setReg dst s.readHl).done 2

/-- `LD (HL),r` (R213). -/
def runLdMR (r : Reg8) (s : State) : StepResult := (s.writeHl (s.reg r)).done 2

/-- `LD (HL),n` (R214). -/
def runLdMN (n : Byte) (s : State) : StepResult := (s.writeHl n).done 3

/-- A load of A from an address (R215, R216, R219, R221, R223). -/
def runLdA (a : Word) (mcycles : Nat) (s : State) : StepResult := (s.setA (s.busRead a)).done mcycles

/-- A store of A to an address (R217, R218, R220, R222, R224). -/
def runStA (a : Word) (mcycles : Nat) (s : State) : StepResult := (s.busWrite a s.cpu.a).done mcycles

/-- `LD A,(HL+)` and `LD A,(HL-)`: HL moves by `step` after the read (R225, R227). -/
def runLdAHL (step : Word) (s : State) : StepResult := ((s.setA s.readHl).setHl (s.hl + step)).done 2

/-- `LD (HL+),A` and `LD (HL-),A`: HL moves by `step` after the write (R226, R228). -/
def runLdHLA (step : Word) (s : State) : StepResult := ((s.writeHl s.cpu.a).setHl (s.hl + step)).done 2

/-- `LD rr,nn` (R229). -/
def runLdPairNN (p : Pair) (nn : Word) (s : State) : StepResult := (s.setPair p nn).done 3

/-- `LD (nn),SP` (R230). -/
def runLdNNSP (nn : Word) (s : State) : StepResult := (s.memWrite16 nn s.cpu.sp).done 5

/-- `LD SP,HL` (R231). -/
def runLdSPHL (s : State) : StepResult := (s.setSp s.hl).done 2

/-- `PUSH rr` (R232). -/
def runPush (q : StackPair) (s : State) : StepResult := (s.push16 (s.stackPair q)).done 4

/-- `POP rr` (R233). -/
def runPop (q : StackPair) (s : State) : StepResult :=
  let (v, s) := s.pop16
  (s.setStackPair q v).done 3

/-- `LD HL,SP+e` (R234). -/
def runLdHLSPe (e : Byte) (s : State) : StepResult :=
  let r := spPlus s.cpu.sp e
  ((s.setHl r.1).setFlags r.2).done 3

/-! The instructions. -/

/-- `LD BC,n16` (R229). -/
def execLd_BC_n16 (nn : Word) (s : State) : StepResult := runLdPairNN .bc nn s

/-- `LD (BC),A` (R217). -/
def execLd_atBC_A (s : State) : StepResult := runStA (s.pair .bc) 2 s

/-- `LD B,n8` (R211). -/
def execLd_B_n8 (n : Byte) (s : State) : StepResult := runLdRN .b n s

/-- `LD (n16),SP` (R230). -/
def execLd_atN16_SP (nn : Word) (s : State) : StepResult := runLdNNSP nn s

/-- `LD A,(BC)` (R215). -/
def execLd_A_atBC (s : State) : StepResult := runLdA (s.pair .bc) 2 s

/-- `LD C,n8` (R211). -/
def execLd_C_n8 (n : Byte) (s : State) : StepResult := runLdRN .c n s

/-- `LD DE,n16` (R229). -/
def execLd_DE_n16 (nn : Word) (s : State) : StepResult := runLdPairNN .de nn s

/-- `LD (DE),A` (R218). -/
def execLd_atDE_A (s : State) : StepResult := runStA (s.pair .de) 2 s

/-- `LD D,n8` (R211). -/
def execLd_D_n8 (n : Byte) (s : State) : StepResult := runLdRN .d n s

/-- `LD A,(DE)` (R216). -/
def execLd_A_atDE (s : State) : StepResult := runLdA (s.pair .de) 2 s

/-- `LD E,n8` (R211). -/
def execLd_E_n8 (n : Byte) (s : State) : StepResult := runLdRN .e n s

/-- `LD HL,n16` (R229). -/
def execLd_HL_n16 (nn : Word) (s : State) : StepResult := runLdPairNN .hl nn s

/-- `LD (HL+),A` (R228). -/
def execLd_atHLi_A (s : State) : StepResult := runLdHLA 1 s

/-- `LD H,n8` (R211). -/
def execLd_H_n8 (n : Byte) (s : State) : StepResult := runLdRN .h n s

/-- `LD A,(HL+)` (R227). -/
def execLd_A_atHLi (s : State) : StepResult := runLdAHL 1 s

/-- `LD L,n8` (R211). -/
def execLd_L_n8 (n : Byte) (s : State) : StepResult := runLdRN .l n s

/-- `LD SP,n16` (R229). -/
def execLd_SP_n16 (nn : Word) (s : State) : StepResult := runLdPairNN .sp nn s

/-- `LD (HL-),A` (R226). -/
def execLd_atHLd_A (s : State) : StepResult := runLdHLA 0xFFFF s

/-- `LD (HL),n8` (R214). -/
def execLd_atHL_n8 (n : Byte) (s : State) : StepResult := runLdMN n s

/-- `LD A,(HL-)` (R225). -/
def execLd_A_atHLd (s : State) : StepResult := runLdAHL 0xFFFF s

/-- `LD A,n8` (R211). -/
def execLd_A_n8 (n : Byte) (s : State) : StepResult := runLdRN .a n s

/-- `LD B,B` (R210). -/
def execLd_B_B (s : State) : StepResult := runLdRR .b .b s

/-- `LD B,C` (R210). -/
def execLd_B_C (s : State) : StepResult := runLdRR .b .c s

/-- `LD B,D` (R210). -/
def execLd_B_D (s : State) : StepResult := runLdRR .b .d s

/-- `LD B,E` (R210). -/
def execLd_B_E (s : State) : StepResult := runLdRR .b .e s

/-- `LD B,H` (R210). -/
def execLd_B_H (s : State) : StepResult := runLdRR .b .h s

/-- `LD B,L` (R210). -/
def execLd_B_L (s : State) : StepResult := runLdRR .b .l s

/-- `LD B,(HL)` (R212). -/
def execLd_B_atHL (s : State) : StepResult := runLdRM .b s

/-- `LD B,A` (R210). -/
def execLd_B_A (s : State) : StepResult := runLdRR .b .a s

/-- `LD C,B` (R210). -/
def execLd_C_B (s : State) : StepResult := runLdRR .c .b s

/-- `LD C,C` (R210). -/
def execLd_C_C (s : State) : StepResult := runLdRR .c .c s

/-- `LD C,D` (R210). -/
def execLd_C_D (s : State) : StepResult := runLdRR .c .d s

/-- `LD C,E` (R210). -/
def execLd_C_E (s : State) : StepResult := runLdRR .c .e s

/-- `LD C,H` (R210). -/
def execLd_C_H (s : State) : StepResult := runLdRR .c .h s

/-- `LD C,L` (R210). -/
def execLd_C_L (s : State) : StepResult := runLdRR .c .l s

/-- `LD C,(HL)` (R212). -/
def execLd_C_atHL (s : State) : StepResult := runLdRM .c s

/-- `LD C,A` (R210). -/
def execLd_C_A (s : State) : StepResult := runLdRR .c .a s

/-- `LD D,B` (R210). -/
def execLd_D_B (s : State) : StepResult := runLdRR .d .b s

/-- `LD D,C` (R210). -/
def execLd_D_C (s : State) : StepResult := runLdRR .d .c s

/-- `LD D,D` (R210). -/
def execLd_D_D (s : State) : StepResult := runLdRR .d .d s

/-- `LD D,E` (R210). -/
def execLd_D_E (s : State) : StepResult := runLdRR .d .e s

/-- `LD D,H` (R210). -/
def execLd_D_H (s : State) : StepResult := runLdRR .d .h s

/-- `LD D,L` (R210). -/
def execLd_D_L (s : State) : StepResult := runLdRR .d .l s

/-- `LD D,(HL)` (R212). -/
def execLd_D_atHL (s : State) : StepResult := runLdRM .d s

/-- `LD D,A` (R210). -/
def execLd_D_A (s : State) : StepResult := runLdRR .d .a s

/-- `LD E,B` (R210). -/
def execLd_E_B (s : State) : StepResult := runLdRR .e .b s

/-- `LD E,C` (R210). -/
def execLd_E_C (s : State) : StepResult := runLdRR .e .c s

/-- `LD E,D` (R210). -/
def execLd_E_D (s : State) : StepResult := runLdRR .e .d s

/-- `LD E,E` (R210). -/
def execLd_E_E (s : State) : StepResult := runLdRR .e .e s

/-- `LD E,H` (R210). -/
def execLd_E_H (s : State) : StepResult := runLdRR .e .h s

/-- `LD E,L` (R210). -/
def execLd_E_L (s : State) : StepResult := runLdRR .e .l s

/-- `LD E,(HL)` (R212). -/
def execLd_E_atHL (s : State) : StepResult := runLdRM .e s

/-- `LD E,A` (R210). -/
def execLd_E_A (s : State) : StepResult := runLdRR .e .a s

/-- `LD H,B` (R210). -/
def execLd_H_B (s : State) : StepResult := runLdRR .h .b s

/-- `LD H,C` (R210). -/
def execLd_H_C (s : State) : StepResult := runLdRR .h .c s

/-- `LD H,D` (R210). -/
def execLd_H_D (s : State) : StepResult := runLdRR .h .d s

/-- `LD H,E` (R210). -/
def execLd_H_E (s : State) : StepResult := runLdRR .h .e s

/-- `LD H,H` (R210). -/
def execLd_H_H (s : State) : StepResult := runLdRR .h .h s

/-- `LD H,L` (R210). -/
def execLd_H_L (s : State) : StepResult := runLdRR .h .l s

/-- `LD H,(HL)` (R212). -/
def execLd_H_atHL (s : State) : StepResult := runLdRM .h s

/-- `LD H,A` (R210). -/
def execLd_H_A (s : State) : StepResult := runLdRR .h .a s

/-- `LD L,B` (R210). -/
def execLd_L_B (s : State) : StepResult := runLdRR .l .b s

/-- `LD L,C` (R210). -/
def execLd_L_C (s : State) : StepResult := runLdRR .l .c s

/-- `LD L,D` (R210). -/
def execLd_L_D (s : State) : StepResult := runLdRR .l .d s

/-- `LD L,E` (R210). -/
def execLd_L_E (s : State) : StepResult := runLdRR .l .e s

/-- `LD L,H` (R210). -/
def execLd_L_H (s : State) : StepResult := runLdRR .l .h s

/-- `LD L,L` (R210). -/
def execLd_L_L (s : State) : StepResult := runLdRR .l .l s

/-- `LD L,(HL)` (R212). -/
def execLd_L_atHL (s : State) : StepResult := runLdRM .l s

/-- `LD L,A` (R210). -/
def execLd_L_A (s : State) : StepResult := runLdRR .l .a s

/-- `LD (HL),B` (R213). -/
def execLd_atHL_B (s : State) : StepResult := runLdMR .b s

/-- `LD (HL),C` (R213). -/
def execLd_atHL_C (s : State) : StepResult := runLdMR .c s

/-- `LD (HL),D` (R213). -/
def execLd_atHL_D (s : State) : StepResult := runLdMR .d s

/-- `LD (HL),E` (R213). -/
def execLd_atHL_E (s : State) : StepResult := runLdMR .e s

/-- `LD (HL),H` (R213). -/
def execLd_atHL_H (s : State) : StepResult := runLdMR .h s

/-- `LD (HL),L` (R213). -/
def execLd_atHL_L (s : State) : StepResult := runLdMR .l s

/-- `LD (HL),A` (R213). -/
def execLd_atHL_A (s : State) : StepResult := runLdMR .a s

/-- `LD A,B` (R210). -/
def execLd_A_B (s : State) : StepResult := runLdRR .a .b s

/-- `LD A,C` (R210). -/
def execLd_A_C (s : State) : StepResult := runLdRR .a .c s

/-- `LD A,D` (R210). -/
def execLd_A_D (s : State) : StepResult := runLdRR .a .d s

/-- `LD A,E` (R210). -/
def execLd_A_E (s : State) : StepResult := runLdRR .a .e s

/-- `LD A,H` (R210). -/
def execLd_A_H (s : State) : StepResult := runLdRR .a .h s

/-- `LD A,L` (R210). -/
def execLd_A_L (s : State) : StepResult := runLdRR .a .l s

/-- `LD A,(HL)` (R212). -/
def execLd_A_atHL (s : State) : StepResult := runLdRM .a s

/-- `LD A,A` (R210). -/
def execLd_A_A (s : State) : StepResult := runLdRR .a .a s

/-- `POP BC` (R233). -/
def execPop_BC (s : State) : StepResult := runPop .bc s

/-- `PUSH BC` (R232). -/
def execPush_BC (s : State) : StepResult := runPush .bc s

/-- `POP DE` (R233). -/
def execPop_DE (s : State) : StepResult := runPop .de s

/-- `PUSH DE` (R232). -/
def execPush_DE (s : State) : StepResult := runPush .de s

/-- `LDH (n8),A` (R224). -/
def execLdh_atN8_A (n : Byte) (s : State) : StepResult := runStA (highPage n) 3 s

/-- `POP HL` (R233). -/
def execPop_HL (s : State) : StepResult := runPop .hl s

/-- `LDH (C),A` (R222). -/
def execLdh_atC_A (s : State) : StepResult := runStA (highPage s.cpu.c) 2 s

/-- `PUSH HL` (R232). -/
def execPush_HL (s : State) : StepResult := runPush .hl s

/-- `LD (n16),A` (R220). -/
def execLd_atN16_A (nn : Word) (s : State) : StepResult := runStA nn 4 s

/-- `LDH A,(n8)` (R223). -/
def execLdh_A_atN8 (n : Byte) (s : State) : StepResult := runLdA (highPage n) 3 s

/-- `POP AF` (R233). -/
def execPop_AF (s : State) : StepResult := runPop .af s

/-- `LDH A,(C)` (R221). -/
def execLdh_A_atC (s : State) : StepResult := runLdA (highPage s.cpu.c) 2 s

/-- `PUSH AF` (R232). -/
def execPush_AF (s : State) : StepResult := runPush .af s

/-- `LD HL,SP+e8` (R234). -/
def execLd_HL_SPe8 (e : Byte) (s : State) : StepResult := runLdHLSPe e s

/-- `LD SP,HL` (R231). -/
def execLd_SP_HL (s : State) : StepResult := runLdSPHL s

/-- `LD A,(n16)` (R219). -/
def execLd_A_atN16 (nn : Word) (s : State) : StepResult := runLdA nn 4 s

end Sys2Proof.Machine
end

