-- ==== Sys2Proof/Machine/RotateBit.lean ====
section
/-! DEFINITION. The rotate, shift and bit family (44_cpu_rotate_bit.md): the shared forms, then one meaning per instruction. -/

namespace Sys2Proof.Machine

/-- An accumulator rotate: Z is always cleared (R270 to R273). -/
def runAccRot (rot : RotOp) (s : State) : StepResult :=
  let x := rotByte rot s.cpu.f.c s.cpu.a
  (s.setAF (x.1, accRotFlags x.2)).done 1

/-- A rotate or shift of a register (R274 to R282). -/
def runRotR (rot : RotOp) (r : Reg8) (s : State) : StepResult :=
  let x := rotByte rot s.cpu.f.c (s.reg r)
  ((s.setReg r x.1).setFlags (rotFlags x.1 x.2)).done 2

/-- A rotate or shift of the byte at HL (R274 to R282). -/
def runRotM (rot : RotOp) (s : State) : StepResult :=
  let x := rotByte rot s.cpu.f.c s.readHl
  ((s.writeHl x.1).setFlags (rotFlags x.1 x.2)).done 4

/-- `BIT b,r` (R283). -/
def runBitR (b : Oct) (r : Reg8) (s : State) : StepResult := (s.setFlags (bitFlags s.cpu.f b (s.reg r))).done 2

/-- `BIT b,(HL)`: one read, no write (R283). -/
def runBitM (b : Oct) (s : State) : StepResult := (s.setFlags (bitFlags s.cpu.f b s.readHl)).done 3

/-- `RES b,r` (R284). -/
def runResR (b : Oct) (r : Reg8) (s : State) : StepResult := (s.setReg r (resByte b (s.reg r))).done 2

/-- `RES b,(HL)` (R284). -/
def runResM (b : Oct) (s : State) : StepResult := (s.writeHl (resByte b s.readHl)).done 4

/-- `SET b,r` (R285). -/
def runSetR (b : Oct) (r : Reg8) (s : State) : StepResult := (s.setReg r (setByte b (s.reg r))).done 2

/-- `SET b,(HL)` (R285). -/
def runSetM (b : Oct) (s : State) : StepResult := (s.writeHl (setByte b s.readHl)).done 4

/-! The instructions. -/

/-- `RLCA` (R270). -/
def execRlca (s : State) : StepResult := runAccRot .rlc s

/-- `RRCA` (R271). -/
def execRrca (s : State) : StepResult := runAccRot .rrc s

/-- `RLA` (R272). -/
def execRla (s : State) : StepResult := runAccRot .rl s

/-- `RRA` (R273). -/
def execRra (s : State) : StepResult := runAccRot .rr s

/-- `RLC B` (R275). -/
def execRlc_B (s : State) : StepResult := runRotR .rlc .b s

/-- `RLC C` (R275). -/
def execRlc_C (s : State) : StepResult := runRotR .rlc .c s

/-- `RLC D` (R275). -/
def execRlc_D (s : State) : StepResult := runRotR .rlc .d s

/-- `RLC E` (R275). -/
def execRlc_E (s : State) : StepResult := runRotR .rlc .e s

/-- `RLC H` (R275). -/
def execRlc_H (s : State) : StepResult := runRotR .rlc .h s

/-- `RLC L` (R275). -/
def execRlc_L (s : State) : StepResult := runRotR .rlc .l s

/-- `RLC (HL)` (R275). -/
def execRlc_atHL (s : State) : StepResult := runRotM .rlc s

/-- `RLC A` (R275). -/
def execRlc_A (s : State) : StepResult := runRotR .rlc .a s

/-- `RRC B` (R276). -/
def execRrc_B (s : State) : StepResult := runRotR .rrc .b s

/-- `RRC C` (R276). -/
def execRrc_C (s : State) : StepResult := runRotR .rrc .c s

/-- `RRC D` (R276). -/
def execRrc_D (s : State) : StepResult := runRotR .rrc .d s

/-- `RRC E` (R276). -/
def execRrc_E (s : State) : StepResult := runRotR .rrc .e s

/-- `RRC H` (R276). -/
def execRrc_H (s : State) : StepResult := runRotR .rrc .h s

/-- `RRC L` (R276). -/
def execRrc_L (s : State) : StepResult := runRotR .rrc .l s

/-- `RRC (HL)` (R276). -/
def execRrc_atHL (s : State) : StepResult := runRotM .rrc s

/-- `RRC A` (R276). -/
def execRrc_A (s : State) : StepResult := runRotR .rrc .a s

/-- `RL B` (R277). -/
def execRl_B (s : State) : StepResult := runRotR .rl .b s

/-- `RL C` (R277). -/
def execRl_C (s : State) : StepResult := runRotR .rl .c s

/-- `RL D` (R277). -/
def execRl_D (s : State) : StepResult := runRotR .rl .d s

/-- `RL E` (R277). -/
def execRl_E (s : State) : StepResult := runRotR .rl .e s

/-- `RL H` (R277). -/
def execRl_H (s : State) : StepResult := runRotR .rl .h s

/-- `RL L` (R277). -/
def execRl_L (s : State) : StepResult := runRotR .rl .l s

/-- `RL (HL)` (R277). -/
def execRl_atHL (s : State) : StepResult := runRotM .rl s

/-- `RL A` (R277). -/
def execRl_A (s : State) : StepResult := runRotR .rl .a s

/-- `RR B` (R278). -/
def execRr_B (s : State) : StepResult := runRotR .rr .b s

/-- `RR C` (R278). -/
def execRr_C (s : State) : StepResult := runRotR .rr .c s

/-- `RR D` (R278). -/
def execRr_D (s : State) : StepResult := runRotR .rr .d s

/-- `RR E` (R278). -/
def execRr_E (s : State) : StepResult := runRotR .rr .e s

/-- `RR H` (R278). -/
def execRr_H (s : State) : StepResult := runRotR .rr .h s

/-- `RR L` (R278). -/
def execRr_L (s : State) : StepResult := runRotR .rr .l s

/-- `RR (HL)` (R278). -/
def execRr_atHL (s : State) : StepResult := runRotM .rr s

/-- `RR A` (R278). -/
def execRr_A (s : State) : StepResult := runRotR .rr .a s

/-- `SLA B` (R279). -/
def execSla_B (s : State) : StepResult := runRotR .sla .b s

/-- `SLA C` (R279). -/
def execSla_C (s : State) : StepResult := runRotR .sla .c s

/-- `SLA D` (R279). -/
def execSla_D (s : State) : StepResult := runRotR .sla .d s

/-- `SLA E` (R279). -/
def execSla_E (s : State) : StepResult := runRotR .sla .e s

/-- `SLA H` (R279). -/
def execSla_H (s : State) : StepResult := runRotR .sla .h s

/-- `SLA L` (R279). -/
def execSla_L (s : State) : StepResult := runRotR .sla .l s

/-- `SLA (HL)` (R279). -/
def execSla_atHL (s : State) : StepResult := runRotM .sla s

/-- `SLA A` (R279). -/
def execSla_A (s : State) : StepResult := runRotR .sla .a s

/-- `SRA B` (R280). -/
def execSra_B (s : State) : StepResult := runRotR .sra .b s

/-- `SRA C` (R280). -/
def execSra_C (s : State) : StepResult := runRotR .sra .c s

/-- `SRA D` (R280). -/
def execSra_D (s : State) : StepResult := runRotR .sra .d s

/-- `SRA E` (R280). -/
def execSra_E (s : State) : StepResult := runRotR .sra .e s

/-- `SRA H` (R280). -/
def execSra_H (s : State) : StepResult := runRotR .sra .h s

/-- `SRA L` (R280). -/
def execSra_L (s : State) : StepResult := runRotR .sra .l s

/-- `SRA (HL)` (R280). -/
def execSra_atHL (s : State) : StepResult := runRotM .sra s

/-- `SRA A` (R280). -/
def execSra_A (s : State) : StepResult := runRotR .sra .a s

/-- `SWAP B` (R281). -/
def execSwap_B (s : State) : StepResult := runRotR .swap .b s

/-- `SWAP C` (R281). -/
def execSwap_C (s : State) : StepResult := runRotR .swap .c s

/-- `SWAP D` (R281). -/
def execSwap_D (s : State) : StepResult := runRotR .swap .d s

/-- `SWAP E` (R281). -/
def execSwap_E (s : State) : StepResult := runRotR .swap .e s

/-- `SWAP H` (R281). -/
def execSwap_H (s : State) : StepResult := runRotR .swap .h s

/-- `SWAP L` (R281). -/
def execSwap_L (s : State) : StepResult := runRotR .swap .l s

/-- `SWAP (HL)` (R281). -/
def execSwap_atHL (s : State) : StepResult := runRotM .swap s

/-- `SWAP A` (R281). -/
def execSwap_A (s : State) : StepResult := runRotR .swap .a s

/-- `SRL B` (R282). -/
def execSrl_B (s : State) : StepResult := runRotR .srl .b s

/-- `SRL C` (R282). -/
def execSrl_C (s : State) : StepResult := runRotR .srl .c s

/-- `SRL D` (R282). -/
def execSrl_D (s : State) : StepResult := runRotR .srl .d s

/-- `SRL E` (R282). -/
def execSrl_E (s : State) : StepResult := runRotR .srl .e s

/-- `SRL H` (R282). -/
def execSrl_H (s : State) : StepResult := runRotR .srl .h s

/-- `SRL L` (R282). -/
def execSrl_L (s : State) : StepResult := runRotR .srl .l s

/-- `SRL (HL)` (R282). -/
def execSrl_atHL (s : State) : StepResult := runRotM .srl s

/-- `SRL A` (R282). -/
def execSrl_A (s : State) : StepResult := runRotR .srl .a s

/-- `BIT 0,B` (R283). -/
def execBit_0_B (s : State) : StepResult := runBitR .o0 .b s

/-- `BIT 0,C` (R283). -/
def execBit_0_C (s : State) : StepResult := runBitR .o0 .c s

/-- `BIT 0,D` (R283). -/
def execBit_0_D (s : State) : StepResult := runBitR .o0 .d s

/-- `BIT 0,E` (R283). -/
def execBit_0_E (s : State) : StepResult := runBitR .o0 .e s

/-- `BIT 0,H` (R283). -/
def execBit_0_H (s : State) : StepResult := runBitR .o0 .h s

/-- `BIT 0,L` (R283). -/
def execBit_0_L (s : State) : StepResult := runBitR .o0 .l s

/-- `BIT 0,(HL)` (R283). -/
def execBit_0_atHL (s : State) : StepResult := runBitM .o0 s

/-- `BIT 0,A` (R283). -/
def execBit_0_A (s : State) : StepResult := runBitR .o0 .a s

/-- `BIT 1,B` (R283). -/
def execBit_1_B (s : State) : StepResult := runBitR .o1 .b s

/-- `BIT 1,C` (R283). -/
def execBit_1_C (s : State) : StepResult := runBitR .o1 .c s

/-- `BIT 1,D` (R283). -/
def execBit_1_D (s : State) : StepResult := runBitR .o1 .d s

/-- `BIT 1,E` (R283). -/
def execBit_1_E (s : State) : StepResult := runBitR .o1 .e s

/-- `BIT 1,H` (R283). -/
def execBit_1_H (s : State) : StepResult := runBitR .o1 .h s

/-- `BIT 1,L` (R283). -/
def execBit_1_L (s : State) : StepResult := runBitR .o1 .l s

/-- `BIT 1,(HL)` (R283). -/
def execBit_1_atHL (s : State) : StepResult := runBitM .o1 s

/-- `BIT 1,A` (R283). -/
def execBit_1_A (s : State) : StepResult := runBitR .o1 .a s

/-- `BIT 2,B` (R283). -/
def execBit_2_B (s : State) : StepResult := runBitR .o2 .b s

/-- `BIT 2,C` (R283). -/
def execBit_2_C (s : State) : StepResult := runBitR .o2 .c s

/-- `BIT 2,D` (R283). -/
def execBit_2_D (s : State) : StepResult := runBitR .o2 .d s

/-- `BIT 2,E` (R283). -/
def execBit_2_E (s : State) : StepResult := runBitR .o2 .e s

/-- `BIT 2,H` (R283). -/
def execBit_2_H (s : State) : StepResult := runBitR .o2 .h s

/-- `BIT 2,L` (R283). -/
def execBit_2_L (s : State) : StepResult := runBitR .o2 .l s

/-- `BIT 2,(HL)` (R283). -/
def execBit_2_atHL (s : State) : StepResult := runBitM .o2 s

/-- `BIT 2,A` (R283). -/
def execBit_2_A (s : State) : StepResult := runBitR .o2 .a s

/-- `BIT 3,B` (R283). -/
def execBit_3_B (s : State) : StepResult := runBitR .o3 .b s

/-- `BIT 3,C` (R283). -/
def execBit_3_C (s : State) : StepResult := runBitR .o3 .c s

/-- `BIT 3,D` (R283). -/
def execBit_3_D (s : State) : StepResult := runBitR .o3 .d s

/-- `BIT 3,E` (R283). -/
def execBit_3_E (s : State) : StepResult := runBitR .o3 .e s

/-- `BIT 3,H` (R283). -/
def execBit_3_H (s : State) : StepResult := runBitR .o3 .h s

/-- `BIT 3,L` (R283). -/
def execBit_3_L (s : State) : StepResult := runBitR .o3 .l s

/-- `BIT 3,(HL)` (R283). -/
def execBit_3_atHL (s : State) : StepResult := runBitM .o3 s

/-- `BIT 3,A` (R283). -/
def execBit_3_A (s : State) : StepResult := runBitR .o3 .a s

/-- `BIT 4,B` (R283). -/
def execBit_4_B (s : State) : StepResult := runBitR .o4 .b s

/-- `BIT 4,C` (R283). -/
def execBit_4_C (s : State) : StepResult := runBitR .o4 .c s

/-- `BIT 4,D` (R283). -/
def execBit_4_D (s : State) : StepResult := runBitR .o4 .d s

/-- `BIT 4,E` (R283). -/
def execBit_4_E (s : State) : StepResult := runBitR .o4 .e s

/-- `BIT 4,H` (R283). -/
def execBit_4_H (s : State) : StepResult := runBitR .o4 .h s

/-- `BIT 4,L` (R283). -/
def execBit_4_L (s : State) : StepResult := runBitR .o4 .l s

/-- `BIT 4,(HL)` (R283). -/
def execBit_4_atHL (s : State) : StepResult := runBitM .o4 s

/-- `BIT 4,A` (R283). -/
def execBit_4_A (s : State) : StepResult := runBitR .o4 .a s

/-- `BIT 5,B` (R283). -/
def execBit_5_B (s : State) : StepResult := runBitR .o5 .b s

/-- `BIT 5,C` (R283). -/
def execBit_5_C (s : State) : StepResult := runBitR .o5 .c s

/-- `BIT 5,D` (R283). -/
def execBit_5_D (s : State) : StepResult := runBitR .o5 .d s

/-- `BIT 5,E` (R283). -/
def execBit_5_E (s : State) : StepResult := runBitR .o5 .e s

/-- `BIT 5,H` (R283). -/
def execBit_5_H (s : State) : StepResult := runBitR .o5 .h s

/-- `BIT 5,L` (R283). -/
def execBit_5_L (s : State) : StepResult := runBitR .o5 .l s

/-- `BIT 5,(HL)` (R283). -/
def execBit_5_atHL (s : State) : StepResult := runBitM .o5 s

/-- `BIT 5,A` (R283). -/
def execBit_5_A (s : State) : StepResult := runBitR .o5 .a s

/-- `BIT 6,B` (R283). -/
def execBit_6_B (s : State) : StepResult := runBitR .o6 .b s

/-- `BIT 6,C` (R283). -/
def execBit_6_C (s : State) : StepResult := runBitR .o6 .c s

/-- `BIT 6,D` (R283). -/
def execBit_6_D (s : State) : StepResult := runBitR .o6 .d s

/-- `BIT 6,E` (R283). -/
def execBit_6_E (s : State) : StepResult := runBitR .o6 .e s

/-- `BIT 6,H` (R283). -/
def execBit_6_H (s : State) : StepResult := runBitR .o6 .h s

/-- `BIT 6,L` (R283). -/
def execBit_6_L (s : State) : StepResult := runBitR .o6 .l s

/-- `BIT 6,(HL)` (R283). -/
def execBit_6_atHL (s : State) : StepResult := runBitM .o6 s

/-- `BIT 6,A` (R283). -/
def execBit_6_A (s : State) : StepResult := runBitR .o6 .a s

/-- `BIT 7,B` (R283). -/
def execBit_7_B (s : State) : StepResult := runBitR .o7 .b s

/-- `BIT 7,C` (R283). -/
def execBit_7_C (s : State) : StepResult := runBitR .o7 .c s

/-- `BIT 7,D` (R283). -/
def execBit_7_D (s : State) : StepResult := runBitR .o7 .d s

/-- `BIT 7,E` (R283). -/
def execBit_7_E (s : State) : StepResult := runBitR .o7 .e s

/-- `BIT 7,H` (R283). -/
def execBit_7_H (s : State) : StepResult := runBitR .o7 .h s

/-- `BIT 7,L` (R283). -/
def execBit_7_L (s : State) : StepResult := runBitR .o7 .l s

/-- `BIT 7,(HL)` (R283). -/
def execBit_7_atHL (s : State) : StepResult := runBitM .o7 s

/-- `BIT 7,A` (R283). -/
def execBit_7_A (s : State) : StepResult := runBitR .o7 .a s

/-- `RES 0,B` (R284). -/
def execRes_0_B (s : State) : StepResult := runResR .o0 .b s

/-- `RES 0,C` (R284). -/
def execRes_0_C (s : State) : StepResult := runResR .o0 .c s

/-- `RES 0,D` (R284). -/
def execRes_0_D (s : State) : StepResult := runResR .o0 .d s

/-- `RES 0,E` (R284). -/
def execRes_0_E (s : State) : StepResult := runResR .o0 .e s

/-- `RES 0,H` (R284). -/
def execRes_0_H (s : State) : StepResult := runResR .o0 .h s

/-- `RES 0,L` (R284). -/
def execRes_0_L (s : State) : StepResult := runResR .o0 .l s

/-- `RES 0,(HL)` (R284). -/
def execRes_0_atHL (s : State) : StepResult := runResM .o0 s

/-- `RES 0,A` (R284). -/
def execRes_0_A (s : State) : StepResult := runResR .o0 .a s

/-- `RES 1,B` (R284). -/
def execRes_1_B (s : State) : StepResult := runResR .o1 .b s

/-- `RES 1,C` (R284). -/
def execRes_1_C (s : State) : StepResult := runResR .o1 .c s

/-- `RES 1,D` (R284). -/
def execRes_1_D (s : State) : StepResult := runResR .o1 .d s

/-- `RES 1,E` (R284). -/
def execRes_1_E (s : State) : StepResult := runResR .o1 .e s

/-- `RES 1,H` (R284). -/
def execRes_1_H (s : State) : StepResult := runResR .o1 .h s

/-- `RES 1,L` (R284). -/
def execRes_1_L (s : State) : StepResult := runResR .o1 .l s

/-- `RES 1,(HL)` (R284). -/
def execRes_1_atHL (s : State) : StepResult := runResM .o1 s

/-- `RES 1,A` (R284). -/
def execRes_1_A (s : State) : StepResult := runResR .o1 .a s

/-- `RES 2,B` (R284). -/
def execRes_2_B (s : State) : StepResult := runResR .o2 .b s

/-- `RES 2,C` (R284). -/
def execRes_2_C (s : State) : StepResult := runResR .o2 .c s

/-- `RES 2,D` (R284). -/
def execRes_2_D (s : State) : StepResult := runResR .o2 .d s

/-- `RES 2,E` (R284). -/
def execRes_2_E (s : State) : StepResult := runResR .o2 .e s

/-- `RES 2,H` (R284). -/
def execRes_2_H (s : State) : StepResult := runResR .o2 .h s

/-- `RES 2,L` (R284). -/
def execRes_2_L (s : State) : StepResult := runResR .o2 .l s

/-- `RES 2,(HL)` (R284). -/
def execRes_2_atHL (s : State) : StepResult := runResM .o2 s

/-- `RES 2,A` (R284). -/
def execRes_2_A (s : State) : StepResult := runResR .o2 .a s

/-- `RES 3,B` (R284). -/
def execRes_3_B (s : State) : StepResult := runResR .o3 .b s

/-- `RES 3,C` (R284). -/
def execRes_3_C (s : State) : StepResult := runResR .o3 .c s

/-- `RES 3,D` (R284). -/
def execRes_3_D (s : State) : StepResult := runResR .o3 .d s

/-- `RES 3,E` (R284). -/
def execRes_3_E (s : State) : StepResult := runResR .o3 .e s

/-- `RES 3,H` (R284). -/
def execRes_3_H (s : State) : StepResult := runResR .o3 .h s

/-- `RES 3,L` (R284). -/
def execRes_3_L (s : State) : StepResult := runResR .o3 .l s

/-- `RES 3,(HL)` (R284). -/
def execRes_3_atHL (s : State) : StepResult := runResM .o3 s

/-- `RES 3,A` (R284). -/
def execRes_3_A (s : State) : StepResult := runResR .o3 .a s

/-- `RES 4,B` (R284). -/
def execRes_4_B (s : State) : StepResult := runResR .o4 .b s

/-- `RES 4,C` (R284). -/
def execRes_4_C (s : State) : StepResult := runResR .o4 .c s

/-- `RES 4,D` (R284). -/
def execRes_4_D (s : State) : StepResult := runResR .o4 .d s

/-- `RES 4,E` (R284). -/
def execRes_4_E (s : State) : StepResult := runResR .o4 .e s

/-- `RES 4,H` (R284). -/
def execRes_4_H (s : State) : StepResult := runResR .o4 .h s

/-- `RES 4,L` (R284). -/
def execRes_4_L (s : State) : StepResult := runResR .o4 .l s

/-- `RES 4,(HL)` (R284). -/
def execRes_4_atHL (s : State) : StepResult := runResM .o4 s

/-- `RES 4,A` (R284). -/
def execRes_4_A (s : State) : StepResult := runResR .o4 .a s

/-- `RES 5,B` (R284). -/
def execRes_5_B (s : State) : StepResult := runResR .o5 .b s

/-- `RES 5,C` (R284). -/
def execRes_5_C (s : State) : StepResult := runResR .o5 .c s

/-- `RES 5,D` (R284). -/
def execRes_5_D (s : State) : StepResult := runResR .o5 .d s

/-- `RES 5,E` (R284). -/
def execRes_5_E (s : State) : StepResult := runResR .o5 .e s

/-- `RES 5,H` (R284). -/
def execRes_5_H (s : State) : StepResult := runResR .o5 .h s

/-- `RES 5,L` (R284). -/
def execRes_5_L (s : State) : StepResult := runResR .o5 .l s

/-- `RES 5,(HL)` (R284). -/
def execRes_5_atHL (s : State) : StepResult := runResM .o5 s

/-- `RES 5,A` (R284). -/
def execRes_5_A (s : State) : StepResult := runResR .o5 .a s

/-- `RES 6,B` (R284). -/
def execRes_6_B (s : State) : StepResult := runResR .o6 .b s

/-- `RES 6,C` (R284). -/
def execRes_6_C (s : State) : StepResult := runResR .o6 .c s

/-- `RES 6,D` (R284). -/
def execRes_6_D (s : State) : StepResult := runResR .o6 .d s

/-- `RES 6,E` (R284). -/
def execRes_6_E (s : State) : StepResult := runResR .o6 .e s

/-- `RES 6,H` (R284). -/
def execRes_6_H (s : State) : StepResult := runResR .o6 .h s

/-- `RES 6,L` (R284). -/
def execRes_6_L (s : State) : StepResult := runResR .o6 .l s

/-- `RES 6,(HL)` (R284). -/
def execRes_6_atHL (s : State) : StepResult := runResM .o6 s

/-- `RES 6,A` (R284). -/
def execRes_6_A (s : State) : StepResult := runResR .o6 .a s

/-- `RES 7,B` (R284). -/
def execRes_7_B (s : State) : StepResult := runResR .o7 .b s

/-- `RES 7,C` (R284). -/
def execRes_7_C (s : State) : StepResult := runResR .o7 .c s

/-- `RES 7,D` (R284). -/
def execRes_7_D (s : State) : StepResult := runResR .o7 .d s

/-- `RES 7,E` (R284). -/
def execRes_7_E (s : State) : StepResult := runResR .o7 .e s

/-- `RES 7,H` (R284). -/
def execRes_7_H (s : State) : StepResult := runResR .o7 .h s

/-- `RES 7,L` (R284). -/
def execRes_7_L (s : State) : StepResult := runResR .o7 .l s

/-- `RES 7,(HL)` (R284). -/
def execRes_7_atHL (s : State) : StepResult := runResM .o7 s

/-- `RES 7,A` (R284). -/
def execRes_7_A (s : State) : StepResult := runResR .o7 .a s

/-- `SET 0,B` (R285). -/
def execSet_0_B (s : State) : StepResult := runSetR .o0 .b s

/-- `SET 0,C` (R285). -/
def execSet_0_C (s : State) : StepResult := runSetR .o0 .c s

/-- `SET 0,D` (R285). -/
def execSet_0_D (s : State) : StepResult := runSetR .o0 .d s

/-- `SET 0,E` (R285). -/
def execSet_0_E (s : State) : StepResult := runSetR .o0 .e s

/-- `SET 0,H` (R285). -/
def execSet_0_H (s : State) : StepResult := runSetR .o0 .h s

/-- `SET 0,L` (R285). -/
def execSet_0_L (s : State) : StepResult := runSetR .o0 .l s

/-- `SET 0,(HL)` (R285). -/
def execSet_0_atHL (s : State) : StepResult := runSetM .o0 s

/-- `SET 0,A` (R285). -/
def execSet_0_A (s : State) : StepResult := runSetR .o0 .a s

/-- `SET 1,B` (R285). -/
def execSet_1_B (s : State) : StepResult := runSetR .o1 .b s

/-- `SET 1,C` (R285). -/
def execSet_1_C (s : State) : StepResult := runSetR .o1 .c s

/-- `SET 1,D` (R285). -/
def execSet_1_D (s : State) : StepResult := runSetR .o1 .d s

/-- `SET 1,E` (R285). -/
def execSet_1_E (s : State) : StepResult := runSetR .o1 .e s

/-- `SET 1,H` (R285). -/
def execSet_1_H (s : State) : StepResult := runSetR .o1 .h s

/-- `SET 1,L` (R285). -/
def execSet_1_L (s : State) : StepResult := runSetR .o1 .l s

/-- `SET 1,(HL)` (R285). -/
def execSet_1_atHL (s : State) : StepResult := runSetM .o1 s

/-- `SET 1,A` (R285). -/
def execSet_1_A (s : State) : StepResult := runSetR .o1 .a s

/-- `SET 2,B` (R285). -/
def execSet_2_B (s : State) : StepResult := runSetR .o2 .b s

/-- `SET 2,C` (R285). -/
def execSet_2_C (s : State) : StepResult := runSetR .o2 .c s

/-- `SET 2,D` (R285). -/
def execSet_2_D (s : State) : StepResult := runSetR .o2 .d s

/-- `SET 2,E` (R285). -/
def execSet_2_E (s : State) : StepResult := runSetR .o2 .e s

/-- `SET 2,H` (R285). -/
def execSet_2_H (s : State) : StepResult := runSetR .o2 .h s

/-- `SET 2,L` (R285). -/
def execSet_2_L (s : State) : StepResult := runSetR .o2 .l s

/-- `SET 2,(HL)` (R285). -/
def execSet_2_atHL (s : State) : StepResult := runSetM .o2 s

/-- `SET 2,A` (R285). -/
def execSet_2_A (s : State) : StepResult := runSetR .o2 .a s

/-- `SET 3,B` (R285). -/
def execSet_3_B (s : State) : StepResult := runSetR .o3 .b s

/-- `SET 3,C` (R285). -/
def execSet_3_C (s : State) : StepResult := runSetR .o3 .c s

/-- `SET 3,D` (R285). -/
def execSet_3_D (s : State) : StepResult := runSetR .o3 .d s

/-- `SET 3,E` (R285). -/
def execSet_3_E (s : State) : StepResult := runSetR .o3 .e s

/-- `SET 3,H` (R285). -/
def execSet_3_H (s : State) : StepResult := runSetR .o3 .h s

/-- `SET 3,L` (R285). -/
def execSet_3_L (s : State) : StepResult := runSetR .o3 .l s

/-- `SET 3,(HL)` (R285). -/
def execSet_3_atHL (s : State) : StepResult := runSetM .o3 s

/-- `SET 3,A` (R285). -/
def execSet_3_A (s : State) : StepResult := runSetR .o3 .a s

/-- `SET 4,B` (R285). -/
def execSet_4_B (s : State) : StepResult := runSetR .o4 .b s

/-- `SET 4,C` (R285). -/
def execSet_4_C (s : State) : StepResult := runSetR .o4 .c s

/-- `SET 4,D` (R285). -/
def execSet_4_D (s : State) : StepResult := runSetR .o4 .d s

/-- `SET 4,E` (R285). -/
def execSet_4_E (s : State) : StepResult := runSetR .o4 .e s

/-- `SET 4,H` (R285). -/
def execSet_4_H (s : State) : StepResult := runSetR .o4 .h s

/-- `SET 4,L` (R285). -/
def execSet_4_L (s : State) : StepResult := runSetR .o4 .l s

/-- `SET 4,(HL)` (R285). -/
def execSet_4_atHL (s : State) : StepResult := runSetM .o4 s

/-- `SET 4,A` (R285). -/
def execSet_4_A (s : State) : StepResult := runSetR .o4 .a s

/-- `SET 5,B` (R285). -/
def execSet_5_B (s : State) : StepResult := runSetR .o5 .b s

/-- `SET 5,C` (R285). -/
def execSet_5_C (s : State) : StepResult := runSetR .o5 .c s

/-- `SET 5,D` (R285). -/
def execSet_5_D (s : State) : StepResult := runSetR .o5 .d s

/-- `SET 5,E` (R285). -/
def execSet_5_E (s : State) : StepResult := runSetR .o5 .e s

/-- `SET 5,H` (R285). -/
def execSet_5_H (s : State) : StepResult := runSetR .o5 .h s

/-- `SET 5,L` (R285). -/
def execSet_5_L (s : State) : StepResult := runSetR .o5 .l s

/-- `SET 5,(HL)` (R285). -/
def execSet_5_atHL (s : State) : StepResult := runSetM .o5 s

/-- `SET 5,A` (R285). -/
def execSet_5_A (s : State) : StepResult := runSetR .o5 .a s

/-- `SET 6,B` (R285). -/
def execSet_6_B (s : State) : StepResult := runSetR .o6 .b s

/-- `SET 6,C` (R285). -/
def execSet_6_C (s : State) : StepResult := runSetR .o6 .c s

/-- `SET 6,D` (R285). -/
def execSet_6_D (s : State) : StepResult := runSetR .o6 .d s

/-- `SET 6,E` (R285). -/
def execSet_6_E (s : State) : StepResult := runSetR .o6 .e s

/-- `SET 6,H` (R285). -/
def execSet_6_H (s : State) : StepResult := runSetR .o6 .h s

/-- `SET 6,L` (R285). -/
def execSet_6_L (s : State) : StepResult := runSetR .o6 .l s

/-- `SET 6,(HL)` (R285). -/
def execSet_6_atHL (s : State) : StepResult := runSetM .o6 s

/-- `SET 6,A` (R285). -/
def execSet_6_A (s : State) : StepResult := runSetR .o6 .a s

/-- `SET 7,B` (R285). -/
def execSet_7_B (s : State) : StepResult := runSetR .o7 .b s

/-- `SET 7,C` (R285). -/
def execSet_7_C (s : State) : StepResult := runSetR .o7 .c s

/-- `SET 7,D` (R285). -/
def execSet_7_D (s : State) : StepResult := runSetR .o7 .d s

/-- `SET 7,E` (R285). -/
def execSet_7_E (s : State) : StepResult := runSetR .o7 .e s

/-- `SET 7,H` (R285). -/
def execSet_7_H (s : State) : StepResult := runSetR .o7 .h s

/-- `SET 7,L` (R285). -/
def execSet_7_L (s : State) : StepResult := runSetR .o7 .l s

/-- `SET 7,(HL)` (R285). -/
def execSet_7_atHL (s : State) : StepResult := runSetM .o7 s

/-- `SET 7,A` (R285). -/
def execSet_7_A (s : State) : StepResult := runSetR .o7 .a s

end Sys2Proof.Machine
end

