-- ==== Sys2Proof/Machine/Forms.lean ====
section
/-! DEFINITION. The meaning of every generic form, and of the prefix byte 0xCB, which runs a form of the extended table. -/

namespace Sys2Proof.Machine

/-- What a form of the opcode table does. The prefix byte has no effect of its own (R198). -/
def execForm (f : Form) (s : State) : StepResult :=
  match f with
  | .ldRR dst src => runLdRR dst src s
  | .ldRN dst n => runLdRN dst n s
  | .ldRM dst => runLdRM dst s
  | .ldMR src => runLdMR src s
  | .ldMN n => runLdMN n s
  | .ldABC => runLdA (s.pair .bc) 2 s
  | .ldADE => runLdA (s.pair .de) 2 s
  | .ldBCA => runStA (s.pair .bc) 2 s
  | .ldDEA => runStA (s.pair .de) 2 s
  | .ldANN nn => runLdA nn 4 s
  | .ldNNA nn => runStA nn 4 s
  | .ldhAC => runLdA (highPage s.cpu.c) 2 s
  | .ldhCA => runStA (highPage s.cpu.c) 2 s
  | .ldhAN n => runLdA (highPage n) 3 s
  | .ldhNA n => runStA (highPage n) 3 s
  | .ldAHLd => runLdAHL 0xFFFF s
  | .ldHLdA => runLdHLA 0xFFFF s
  | .ldAHLi => runLdAHL 1 s
  | .ldHLiA => runLdHLA 1 s
  | .ldPairNN p nn => runLdPairNN p nn s
  | .ldNNSP nn => runLdNNSP nn s
  | .ldSPHL => runLdSPHL s
  | .push q => runPush q s
  | .pop q => runPop q s
  | .ldHLSPe e => runLdHLSPe e s
  | .aluR op src => runAluR op src s
  | .aluM op => runAluM op s
  | .aluN op n => runAluN op n s
  | .incR r => runIncR r s
  | .incM => runIncM s
  | .decR r => runDecR r s
  | .decM => runDecM s
  | .daa => runDaa s
  | .cpl => runCpl s
  | .scf => runScf s
  | .ccf => runCcf s
  | .addHL p => runAddHL p s
  | .incPair p => runIncPair p s
  | .decPair p => runDecPair p s
  | .addSPe e => runAddSPe e s
  | .rlca => runAccRot .rlc s
  | .rrca => runAccRot .rrc s
  | .rla => runAccRot .rl s
  | .rra => runAccRot .rr s
  | .rotR rot r => runRotR rot r s
  | .rotM rot => runRotM rot s
  | .bitR b r => runBitR b r s
  | .bitM b => runBitM b s
  | .resR b r => runResR b r s
  | .resM b => runResM b s
  | .setR b r => runSetR b r s
  | .setM b => runSetM b s
  | .jp nn => runJp nn s
  | .jpCc cc nn => runJpCc cc nn s
  | .jr e => runJr e s
  | .jrCc cc e => runJrCc cc e s
  | .jpHL => runJpHL s
  | .call nn => runCall nn s
  | .callCc cc nn => runCallCc cc nn s
  | .ret => runRet s
  | .retCc cc => runRetCc cc s
  | .reti => runReti s
  | .rst t => runRst t s
  | .nop => runNop s
  | .di => runDi s
  | .ei => runEi s
  | .halt => runHalt s
  | .stop n => runStop n s
  | .illegal op => runIllegal op s
  | .prefixCB => .next s

/-- `PREFIX CB`: with PC past the prefix byte, one more byte is fetched and dispatched through the extended table (R193, R198). -/
def execPrefixCB (s : State) : StepResult :=
  let (op2, s) := s.fetch8
  execForm (decodeExtended op2) s

end Sys2Proof.Machine
end

