-- ==== Sys2Proof/Machine/Iterate.lean ====
section
/-! DEFINITION. One instruction (R193) and one iteration of the run loop (R191). -/

namespace Sys2Proof.Machine

namespace State

/-- The three bytes at PC, as many as the longest instruction has (R194; reads change nothing, log 15). -/
def fetchWindow (s : State) : List Byte :=
  [s.busRead s.cpu.pc, s.busRead (s.cpu.pc + 1), s.busRead (s.cpu.pc + 2)]

/-- PC moved past an instruction of `n` bytes (R29). -/
def skipBytes (s : State) (n : Nat) : State := s.setPc (s.cpu.pc + BitVec.ofNat 16 n)

/-- The delayed `EI`: if the enable was pending before the instruction and still is, IME becomes 1 (R193, R202). -/
def settleIme (s : State) (pendingBefore : Bool) : State :=
  if pendingBefore && s.cpu.imePending then s.setIme true false else s

/-- `Step()`: fetch, decode, execute, the delayed enable (R193). Every window of three bytes begins with an instruction. -/
def cpuStep (s : State) : StepResult :=
  match decode s.fetchWindow with
  | .error _ => .fault (.undefinedOpcode (s.busRead s.cpu.pc) s.cpu.pc)
  | .ok (i, rest) =>
    match exec i (s.skipBytes (3 - rest.length)) with
    | .next t => .next (t.settleIme s.cpu.imePending)
    | .fault f => .fault f
    | .refused r => .refused r

/-- The CPU leaves the halted state (R191, R201). -/
def wake (s : State) : State := s.setCpu { s.cpu with halted := false }

/-- The second half of an iteration: fast-forward while halted, else one instruction; then `Commit` unless a fault is set,
which leaves PC at the instruction and charges nothing (R191, R199, R200). -/
def runOrIdle (s : State) : StepResult :=
  if s.cpu.halted then
    match s.untilNextEvent with
    | none => .next (s.raiseFault (.schedulerMisuse none))
    | some n => .next (s.advance n).commit
  else
    match s.cpuStep with
    | .next t =>
      match t.fault with
      | none => .next t.commit
      | some _ => .next t
    | .fault f => .next (s.raiseFault f)
    | .refused r => .refused r

/-- `Iterate()` (R191). A fatal error is recorded in the state it leaves. -/
def iterate (s : State) : StepResult :=
  if s.serviceable = 0 then s.runOrIdle
  else
    let s' := s.wake
    if s'.cpu.ime then .next (s'.serviceInterrupt (lowestSet s.serviceable)).commit else s'.runOrIdle

end State

end Sys2Proof.Machine
end

