-- ==== Sys2Proof/Machine/Poke.lean ====
section
/-! DEFINITION. Placing bytes where the machine fetches them, behind the bus: for tests, and as what loading a program from
outside leaves (log 6). No instruction does this. -/

namespace Sys2Proof.Machine

namespace State

/-- The address can hold a byte that a fetch returns as it is. -/
def canHold (s : State) (a : Word) : Bool :=
  match s.region a with
  | .boot _ => true
  | .cart k => s.cart.showsRom k
  | .vram _ => !s.cpuBlocked
  | .wram _ => true
  | .oam _ => !s.cpuBlocked
  | .io _ => false
  | .unmapped => false
  | .hram _ => true
  | .ie => false

/-- Put a byte at an address, whatever device is there. -/
def poke (s : State) (a : Word) (v : Byte) : State :=
  match s.region a with
  | .boot off => { s with cfg := { s.cfg with bootRom := s.cfg.bootRom.map (fun rom => rom.set off v) } }
  | .cart k => if s.cart.showsRom k then { s with cart := { s.cart with rom := s.cart.rom.write k v } } else s
  | .vram k => s.setMems { s.mems with vram := s.mems.vram.write k v }
  | .wram k => s.setMems { s.mems with wram := s.mems.wram.write k v }
  | .oam i => s.setMems { s.mems with oam := s.mems.oam.write i v }
  | .io _ => s
  | .unmapped => s
  | .hram i => s.setMems { s.mems with hram := s.mems.hram.write i v }
  | .ie => s

/-- Put bytes at consecutive addresses. -/
def pokeBytes (s : State) (a : Word) : List Byte → State
  | [] => s
  | v :: rest => (s.poke a v).pokeBytes (a + 1) rest

/-- A state whose next iteration fetches an instruction, from PC if bytes can be placed there, else from 0xC000: no fault, not
halted, and no interrupt about to be dispatched. -/
def readyToFetch (s : State) : State :=
  let pc := s.cpu.pc
  let holds := s.canHold pc && s.canHold (pc + 1) && s.canHold (pc + 2)
  { s with
    fault := none
    cpu :=
      { s.cpu with
        halted := false
        ime := s.cpu.ime && decide (s.serviceable = 0)
        pc := if holds then pc else 0xC000 } }

end State

end Sys2Proof.Machine
end

