-- ==== Sys2Proof/Machine/Step.lean ====
section
/-! DEFINITION. One step of the machine: one iteration of the run loop (R191). -/

namespace Sys2Proof.Machine

/-- One iteration. While `fault` is set the run loop refuses to run, and an iteration that sets it ends in it (R34, R190). -/
def step (s : State) : Host.Outcome State Fault Refusal :=
  match s.fault with
  | some f => .fault f
  | none =>
    match s.iterate with
    | .next t =>
      match t.fault with
      | none => .next t
      | some f => .fault f
    | .fault f => .fault f
    | .refused r => .refused r

/-- The state with an instruction's bytes where the next step fetches: the low `nbits` bits of `w`, zeros above (log 6). -/
def State.withFetchWord (s : State) (nbits w : Nat) : State :=
  let s := s.readyToFetch
  s.pokeBytes s.cpu.pc (tableBytes 3 (w % 2 ^ nbits))

end Sys2Proof.Machine
end

