-- ==== Sys2Proof/Machine/HostCalls.lean ====
section
/-! DEFINITION. The host's calls and their protocol (R116, R190, R510 to R512, R519, R530), and what the joypad and the serial
port do between iterations (R114, R115). All calls are made between frames. -/

namespace Sys2Proof.Machine

/-- The core as the host sees it (R519). `ready` with `fault` set is the state Faulted. -/
inductive Session where
  /-- Empty: the parameters, and the collaborators of the console -/
  | empty (cfg : Config) (joypad : Joypad) (serial : Serial)
  /-- Loaded: a cartridge, no reset yet -/
  | loaded (cfg : Config) (cart : Cart) (joypad : Joypad) (serial : Serial)
  /-- Ready or Faulted -/
  | ready (s : State)
  deriving DecidableEq, Repr

/-- Why a call returns an error. -/
inductive CallError where
  /-- a configuration error (R498, R511) -/
  | configuration
  /-- a save-state header that does not match (R499) -/
  | saveState
  /-- a call outside its legal states (R519) -/
  | notLegal
  /-- `Err(fault)` (R190) -/
  | fault (f : Fault)
  /-- an instruction without a meaning; there is none -/
  | refused (r : Refusal)
  /-- the bound on iterations ran out before the frame ended (R520, log 20) -/
  | unfinished
  deriving DecidableEq, Repr

/-- The result of a call: the session after it, and a value or an error. -/
abbrev Call (α : Type) := Session × Except CallError α

/-- The parameters a session was given. -/
def Session.cfg : Session → Config
  | .empty cfg _ _ => cfg
  | .loaded cfg _ _ _ => cfg
  | .ready s => s.cfg

/-- The joypad of a session. -/
def Session.joypad : Session → Joypad
  | .empty _ j _ => j
  | .loaded _ _ j _ => j
  | .ready s => s.joypad

/-- The serial port of a session. -/
def Session.serial : Session → Serial
  | .empty _ _ p => p
  | .loaded _ _ _ p => p
  | .ready s => s.serial

/-- `LoadROM(bytes)`: fixes `CART` and `MODEL`, the latter by the CGB-support flag, and discards the machine state, or changes
nothing (R8, R113, R498, R519). DESIGN CHOICE (log 25): the joypad and the serial port, which are no part of the core's state,
keep what they show and remember. -/
def loadRom (x : Session) (bytes : List Byte) : Call Unit :=
  match Collab.loadRom bytes with
  | none => (x, .error .configuration)
  | some (info, plain, hidden) =>
    (.loaded { x.cfg with model := if info.cgbSupport then .cgb else .dmg }
      { info := info, kind := if plain then .plain else .device, rom := Memory.ofBytes bytes, romSize := bytes.length,
        hidden := hidden } x.joypad x.serial, .ok ())

/-- The cartridge is told of a reset (R512). -/
def Cart.afterReset (c : Cart) : Cart := { c with hidden := Collab.cartReset c.rom c.hidden }

/-- The joypad is told of a reset (R512). -/
def Joypad.afterReset (j : Joypad) : Joypad :=
  let (shown, hidden) := Collab.joypadReset j.shown j.hidden
  { shown := shown, hidden := hidden }

/-- The serial port is told of a reset (R512). -/
def Serial.afterReset (p : Serial) : Serial :=
  let (sb, sc, hidden) := Collab.serialReset p.sb p.sc p.hidden
  { sb := sb, sc := sc, hidden := hidden }

/-- The state `Reset(skip)` makes; `Reset(false)` needs a `BOOTROM` (R511, R512). -/
def resetState (cfg : Config) (skip : Bool) (cart : Cart) (joypad : Joypad) (serial : Serial) : Option State :=
  if skip || cfg.bootRom.isSome then
    some (State.resetWith cfg skip cart.afterReset joypad.afterReset serial.afterReset)
  else none

/-- `Reset(skip)` (R510, R511, R519). -/
def reset (x : Session) (skip : Bool) : Call Unit :=
  match x with
  | .empty _ _ _ => (x, .error .notLegal)
  | .loaded cfg cart j p =>
    match resetState cfg skip cart j p with
    | some s => (.ready s, .ok ())
    | none => (x, .error .configuration)
  | .ready s =>
    match resetState s.cfg skip s.cart s.joypad s.serial with
    | some s' => (.ready s', .ok ())
    | none => (x, .error .configuration)

/-- What the serial port does of itself between iterations: its own state, and perhaps `RequestInterrupt(3)` (R115, R483). -/
def State.serialActivity (s : State) : State :=
  let (sb, sc, hidden, request) := Collab.serialTick s.serial.sb s.serial.sc s.serial.hidden s.sched.cycle
  let s := { s with serial := { sb := sb, sc := sc, hidden := hidden } }
  if request then s.requestInterrupt 3 else s

/-- The loop of `RunFrame`: at most `fuel` iterations from a state without a fault, until `ppu.frame` differs from `f0`, the
serial port acting between two of them (R190, R483). -/
def runFrameLoop (f0 : Nat) : Nat → State → Call Unit
  | 0, s => (.ready s, .error .unfinished)
  | fuel + 1, s =>
    match s.iterate with
    | .next t =>
      match t.fault with
      | some f => (.ready t, .error (.fault f))
      | none => if t.ppu.frame ≠ f0 then (.ready t, .ok ()) else runFrameLoop f0 fuel t.serialActivity
    | .fault f => (.ready s, .error (.fault f))
    | .refused r => (.ready s, .error (.refused r))

/-- `RunFrame()` bounded by `fuel` iterations (R190, R519, R520). -/
def runFrame (fuel : Nat) (x : Session) : Call Unit :=
  match x with
  | .ready s =>
    match s.fault with
    | some f => (x, .error (.fault f))
    | none => runFrameLoop s.ppu.frame fuel s
  | .empty _ _ _ => (x, .error .notLegal)
  | .loaded _ _ _ _ => (x, .error .notLegal)

/-- `Screen()` (R343, R519). -/
def screen (x : Session) : Call (List Rgba) :=
  match x with
  | .ready s => (x, .ok s.screen)
  | .empty _ _ _ => (x, .error .notLegal)
  | .loaded _ _ _ _ => (x, .error .notLegal)

/-- `SetKeyInput(button, pressed)`: the joypad's own state, and perhaps `RequestInterrupt(4)` (R114). -/
def State.keyInput (s : State) (button : Nat) (pressed : Bool) : State :=
  let (shown, hidden, request) := Collab.joypadKey s.joypad.shown s.joypad.hidden button pressed
  let s := { s with joypad := { shown := shown, hidden := hidden } }
  if request then s.requestInterrupt 4 else s

/-- `SetKeyInput` as a call; legal in Ready (R519). -/
def setKeyInput (x : Session) (button : Nat) (pressed : Bool) : Call Unit :=
  match x with
  | .ready s =>
    match s.fault with
    | none => (.ready (s.keyInput button pressed), .ok ())
    | some _ => (x, .error .notLegal)
  | .empty _ _ _ => (x, .error .notLegal)
  | .loaded _ _ _ _ => (x, .error .notLegal)

/-- The serial port acts between two calls of the host, which is between iterations too; only in Ready (R115, R483, log 8). -/
def serialActs (x : Session) : Call Unit :=
  match x with
  | .ready s =>
    match s.fault with
    | none => (.ready s.serialActivity, .ok ())
    | some _ => (x, .error .notLegal)
  | .empty _ _ _ => (x, .error .notLegal)
  | .loaded _ _ _ _ => (x, .error .notLegal)

/-- `Read(addr)`: `BusRead` (R95, R519). -/
def debugRead (x : Session) (a : Word) : Call Byte :=
  match x with
  | .ready s => (x, .ok (s.busRead a))
  | .empty _ _ _ => (x, .error .notLegal)
  | .loaded _ _ _ _ => (x, .error .notLegal)

/-- `Write(addr, v)`: `BusWrite` with every side effect (R95, R519). -/
def debugWrite (x : Session) (a : Word) (v : Byte) : Call Unit :=
  match x with
  | .ready s => (.ready (s.busWrite a v), .ok ())
  | .empty _ _ _ => (x, .error .notLegal)
  | .loaded _ _ _ _ => (x, .error .notLegal)

/-- A save state: the versioned header and every item of the console state, with the collaborators' (R74, R530). The parameters
and the ROM image are not state and stand in none (R75), nor do the cartridge's metadata and kind, which `LoadROM` fixes: of the
cartridge it holds what it remembers. The framebuffer is held as its pixels, `ppu.fb` is empty. The byte layout is open
(log 19). -/
structure SaveState where
  magic : Nat
  version : Nat
  model : Model
  sched : Sched
  cpu : Cpu
  irq : Irq
  mems : Mems
  ppu : Ppu
  screen : List Rgba
  apu : Apu
  timer : Timer
  dma : Dma
  cartHidden : Nat
  joypad : Joypad
  serial : Serial
  sampleOut : List (Nat × Nat)
  fault : Option Fault
  deriving DecidableEq, Repr

/-- `Serialize()` (R530). -/
def State.serialize (s : State) : SaveState :=
  { magic := Config.saveMagic.1, version := Config.saveMagic.2, model := s.cfg.model, sched := s.sched, cpu := s.cpu
    irq := s.irq, mems := s.mems, ppu := { s.ppu with fb := [] }, screen := s.screen, apu := s.apu, timer := s.timer
    dma := s.dma, cartHidden := s.cart.hidden, joypad := s.joypad, serial := s.serial
    sampleOut := s.sampleOut, fault := s.fault }

/-- `Serialize()` as a call (R519). -/
def serialize (x : Session) : Call SaveState :=
  match x with
  | .ready s => (x, .ok s.serialize)
  | .empty _ _ _ => (x, .error .notLegal)
  | .loaded _ _ _ _ => (x, .error .notLegal)

/-- The state a save state restores in a core with given parameters and a given cartridge: the parameters, the ROM image, the
metadata and the kind stay (R75, R530). DESIGN
CHOICE (log 26): the spec says nothing of a core with other parameters, or with another cartridge, than the saved one's. -/
def SaveState.restore (b : SaveState) (cfg : Config) (cart : Cart) : State :=
  { cfg := cfg, sched := b.sched, cpu := b.cpu, irq := b.irq, mems := b.mems
    ppu := { b.ppu with fb := sparseOfList (blankOf cfg) 0 (b.screen.take (screenW * screenH)) }
    apu := b.apu, timer := b.timer, dma := b.dma
    cart := { cart with hidden := b.cartHidden }
    joypad := b.joypad, serial := b.serial, sampleOut := b.sampleOut, fault := b.fault }

/-- The header of a save state fits a core of the given variant (R499, R530). -/
def SaveState.fits (b : SaveState) (model : Model) : Bool :=
  decide (b.magic = Config.saveMagic.1 ∧ b.version = Config.saveMagic.2 ∧ b.model = model)

/-- `Deserialize(bytes)`: a header that does not match changes nothing; otherwise everything but the parameters and the
cartridge's ROM image, metadata and kind is what was saved (R75, R499, R519, R530; log 26). -/
def deserialize (x : Session) (b : SaveState) : Call Unit :=
  match x with
  | .empty _ _ _ => (x, .error .notLegal)
  | .loaded cfg cart _ _ => if b.fits cfg.model then (.ready (b.restore cfg cart), .ok ()) else (x, .error .saveState)
  | .ready s => if b.fits s.cfg.model then (.ready (b.restore s.cfg s.cart), .ok ()) else (x, .error .saveState)

/-- Draining the audio: the pairs so far, left then right, and the stream emptied; legal in Ready (R420, R519). -/
def drainAudio (x : Session) : Call (List (Nat × Nat)) :=
  match x with
  | .ready s =>
    match s.fault with
    | none => (.ready { s with sampleOut := [] }, .ok s.sampleOut)
    | some _ => (x, .error .notLegal)
  | .empty _ _ _ => (x, .error .notLegal)
  | .loaded _ _ _ _ => (x, .error .notLegal)

end Sys2Proof.Machine
end

