-- ==== Sys2Proof/Safety.lean ====
section
/-! DEFINITION. The invariants of the machine between iterations (R52, R76, R329, R333, R469) and the canonical form of its
memories. Claims about every state name those they need. -/

namespace Sys2Proof.Machine

/-- Due cycles ascend (R22). -/
def dueAscending : List (Handle × Int) → Bool
  | [] => true
  | (_, t) :: rest => rest.all (fun p => decide (t ≤ p.2)) && dueAscending rest

/-- No handle occurs twice (R22). -/
def handlesDistinct : List (Handle × Int) → Bool
  | [] => true
  | (h, _) :: rest => !isQueued h rest && handlesDistinct rest

namespace State

/-- The queue: ascending, each handle at most once (R22), `EV_PPU`, `EV_APU_FS` and `EV_APU_SAMPLE` pending, `EV_TIMER_INC`
pending iff TAC[2] is 1 (R76 c, d). -/
abbrev QueueInv (s : State) : Prop :=
  dueAscending s.sched.queue = true ∧ handlesDistinct s.sched.queue = true ∧ s.isPending .ppu = true ∧
    s.isPending .apuFs = true ∧ s.isPending .apuSample = true ∧ s.isPending .timerInc = tacEnabled s.timer.tac

/-- The scheduler between iterations: nothing staged, nothing due (R76 a, b), and the queue's own invariant. -/
abbrev SchedInv (s : State) : Prop :=
  s.sched.staged = 0 ∧ (∀ p ∈ s.sched.queue, (s.sched.cycle : Int) < p.2) ∧ s.QueueInv

/-- Every memory is in its canonical form and within its size: one VRAM bank and two WRAM banks on a DMG, two and eight on a
CGB (R37 to R43). -/
abbrev MemWf (s : State) : Prop :=
  Memory.wf (if s.cfg.model = .cgb then 16384 else 8192) s.mems.vram = true ∧
    Memory.wf (if s.cfg.model = .cgb then 32768 else 8192) s.mems.wram = true ∧
    Memory.wf 160 s.mems.oam = true ∧ Memory.wf 127 s.mems.hram = true ∧ Memory.wf 16 s.mems.wave = true ∧
    Memory.wf 64 s.mems.bgPal = true ∧ Memory.wf 64 s.mems.objPal = true ∧ Memory.wf s.cart.romSize s.cart.rom = true ∧
    sparseWf s.blankColour (screenW * screenH) 0 s.ppu.fb = true

/-- What a DMG does not have keeps its reset value (R33, R37, R39, R468). -/
abbrev DmgInv (s : State) : Prop :=
  s.cfg.model = .dmg →
    s.cpu.speed = false ∧ s.cpu.speedArmed = false ∧ s.mems.vbk = 0 ∧ s.mems.svbk = 0 ∧ s.mems.bgPal = [] ∧
      s.mems.objPal = [] ∧ s.dma.active = false ∧ s.dma.complete = true ∧ s.dma.remaining = 0

end State

/-- The mode a phase stands for while the display is on (R52). -/
def Phase.mode : Phase → Mode
  | .off => .hblank
  | .m2 => .oamScan
  | .m3 => .transfer
  | .m0 => .hblank
  | .m1 => .vblank

namespace State

/-- The PPU: phase, mode and LY agree (R52, R76 f), `stat_prev` is the current level of the STAT line (R333), the scan holds at
most ten entries and the latched lengthening leaves Mode 0 at least one cycle (R322, R339). -/
abbrev PpuInv (s : State) : Prop :=
  s.ppu.mode = s.ppu.phase.mode ∧ (s.ppu.phase = .off ↔ s.ppu.on = false) ∧
    s.ppu.statPrev = (s.ppu.on && s.ppu.statLevel) ∧ (s.ppu.phase = .off → s.ppu.ly = 0) ∧
    (s.ppu.phase = .m1 → 144 ≤ s.ppu.ly.toNat ∧ s.ppu.ly.toNat ≤ 153) ∧
    (s.ppu.phase = .m2 ∨ s.ppu.phase = .m3 ∨ s.ppu.phase = .m0 → s.ppu.ly.toNat ≤ 143) ∧
    s.ppu.scan.length ≤ 10 ∧ s.ppu.m3Extra ≤ 203

/-- The APU: timers run, lengths and counters stay in range, and no channel is ahead of the cycle counter (R60 to R66, R76 g). -/
abbrev ApuInv (s : State) : Prop :=
  0 < s.apu.ch1.timer ∧ 0 < s.apu.ch2.timer ∧ 0 < s.apu.ch3.timer ∧ 0 < s.apu.ch4.timer ∧
    s.apu.ch1.length ≤ 64 ∧ s.apu.ch2.length ≤ 64 ∧ s.apu.ch3.length ≤ 256 ∧ s.apu.ch4.length ≤ 64 ∧
    s.apu.ch1.envTimer ≤ 8 ∧ s.apu.ch2.envTimer ≤ 8 ∧ s.apu.ch4.envTimer ≤ 8 ∧ s.apu.sweep.timer ≤ 8 ∧
    s.apu.synced ≤ (s.sched.cycle : Int)

end State

/-- The VRAM DMA engine (R469). -/
abbrev Dma.Inv (d : Dma) : Prop :=
  d.remaining % 16 = 0 ∧ d.remaining ≤ 2048 ∧ (d.active = true → d.mode = .hblank ∧ d.complete = false ∧ 16 ≤ d.remaining) ∧
    (d.complete = true → d.remaining = 0)

namespace State

/-- All of it, with admissible parameters (R8) and no fault. -/
abbrev Inv (s : State) : Prop :=
  s.cfg.Admissible ∧ s.fault = none ∧ s.SchedInv ∧ s.MemWf ∧ s.DmgInv ∧ s.PpuInv ∧ s.ApuInv ∧ s.dma.Inv

end State

/-! Terms the statements share. -/

/-- The bytes are, to the last one, the encoding of a form: the decoder reads it from them and nothing is left. -/
def decodesTo (bytes : List Byte) (f : Form) : Prop := decode bytes = .ok (f.instr, [])

end Sys2Proof.Machine

namespace Sys2Proof

/-- The value of a register in the field `r` (R143). -/
def Reg8.field : Reg8 → Nat
  | .b => 0
  | .c => 1
  | .d => 2
  | .e => 3
  | .h => 4
  | .l => 5
  | .a => 7

/-- The value of a pair in the field `rr` (R144). -/
def Pair.field : Pair → Nat
  | .bc => 0
  | .de => 1
  | .hl => 2
  | .sp => 3

/-- The value of a pair in the field `rr2` (R145). -/
def StackPair.field : StackPair → Nat
  | .bc => 0
  | .de => 1
  | .hl => 2
  | .af => 3

/-- The value of a condition in the field `cc` (R146). -/
def Cond.field : Cond → Nat
  | .nz => 0
  | .z => 1
  | .nc => 2
  | .c => 3

/-- The value of an operation in the field `alu` (R147). -/
def AluOp.field : AluOp → Nat
  | .add => 0
  | .adc => 1
  | .sub => 2
  | .sbc => 3
  | .and => 4
  | .xor => 5
  | .or => 6
  | .cp => 7

/-- The value of a rotate or shift in the field `rot` (R274). -/
def RotOp.field : RotOp → Nat
  | .rlc => 0
  | .rrc => 1
  | .rl => 2
  | .rr => 3
  | .sla => 4
  | .sra => 5
  | .swap => 6
  | .srl => 7

namespace Machine

/-- The three encodings of an accumulator operation (R240). -/
def aluEncodings (op : AluOp) : Prop :=
  (∀ r : Reg8, decodesTo [BitVec.ofNat 8 (0x80 + 8 * op.field + r.field)] (.aluR op r)) ∧
  decodesTo [BitVec.ofNat 8 (0x86 + 8 * op.field)] (.aluM op) ∧
  (∀ n : Byte, decodesTo [BitVec.ofNat 8 (0xC6 + 8 * op.field), n] (.aluN op n))

/-- The operand `v` and the cost `m` of the three forms of an accumulator operation (R240). -/
def aluOperand (op : AluOp) (s : State) (i : Instr) (v : Byte) (m : Nat) : Prop :=
  (∃ r, i = (Form.aluR op r).instr ∧ v = s.reg r ∧ m = 1) ∨
  (i = (Form.aluM op).instr ∧ v = s.busRead (Word.ofBytes s.cpu.h s.cpu.l) ∧ m = 2) ∨
  (i = (Form.aluN op v).instr ∧ m = 2)

/-- The result and the carry of a rotate or shift of `v` with incoming carry `c`, as the rules give them (R275 to R282). -/
def rotated (rot : RotOp) (c : Bool) (v w : Byte) (out : Bool) : Prop :=
  match rot with
  | .rlc => w = (v <<< 1) ||| (v >>> 7) ∧ out = v.getLsbD 7
  | .rrc => w = (v >>> 1) ||| (v <<< 7) ∧ out = v.getLsbD 0
  | .rl => w = (v <<< 1) ||| (if c then 1 else 0) ∧ out = v.getLsbD 7
  | .rr => w = (v >>> 1) ||| (if c then 0x80 else 0) ∧ out = v.getLsbD 0
  | .sla => w = v <<< 1 ∧ out = v.getLsbD 7
  | .sra => w = (v >>> 1) ||| (v &&& 0x80) ∧ out = v.getLsbD 0
  | .swap => w = (v <<< 4) ||| (v >>> 4) ∧ out = false
  | .srl => w = v >>> 1 ∧ out = v.getLsbD 0

/-- The address of an APU register (R57, R92). -/
def ApuReg.address : ApuReg → Word
  | .nr10 => 0xFF10
  | .nr11 => 0xFF11
  | .nr12 => 0xFF12
  | .nr13 => 0xFF13
  | .nr14 => 0xFF14
  | .nr21 => 0xFF16
  | .nr22 => 0xFF17
  | .nr23 => 0xFF18
  | .nr24 => 0xFF19
  | .nr30 => 0xFF1A
  | .nr31 => 0xFF1B
  | .nr32 => 0xFF1C
  | .nr33 => 0xFF1D
  | .nr34 => 0xFF1E
  | .nr41 => 0xFF20
  | .nr42 => 0xFF21
  | .nr43 => 0xFF22
  | .nr44 => 0xFF23
  | .nr50 => 0xFF24
  | .nr51 => 0xFF25

/-- The bits of an APU register that read 1 whatever is stored (R57). -/
def ApuReg.mask : ApuReg → Byte
  | .nr10 => 0x80
  | .nr11 | .nr21 => 0x3F
  | .nr12 | .nr22 | .nr42 | .nr43 | .nr50 | .nr51 => 0x00
  | .nr13 | .nr23 | .nr31 | .nr33 | .nr41 => 0xFF
  | .nr14 | .nr24 | .nr34 | .nr44 => 0xBF
  | .nr30 => 0x7F
  | .nr32 => 0x9F

/-- The condition `cc` holds (R146, R290). -/
def conditionMet (cc : Cond) (s : State) : Prop :=
  match cc with
  | .nz => s.cpu.f.z = false
  | .z => s.cpu.f.z = true
  | .nc => s.cpu.f.c = false
  | .c => s.cpu.f.c = true

end Machine

end Sys2Proof
end

