-- ==== Sys2Proof/Certificates/Slice0/Obligations.lean ====
section
/-! DEFINITION. The statements about the machine. A form made an instruction, `(Form.ldRR dst src).instr`, is the constructor of
the opcode table with those fields; a statement about a form for all its fields names all its constructors. A meaning starts
with PC past the instruction's bytes; `StepRunsInstruction` says how a step gets there. -/

open Sys2Proof Sys2Proof.Machine

/-! ## Encoding -/

/-- Decoding the bytes of any well-formed instruction but the prefix byte, whatever follows them, gives the instruction back and
leaves what follows (R140 to R155). That the byte 0xCB alone, with nothing after it, is the instruction `prefixCB` is the model's
choice (log entry 16); the spec says that 0xCB is not an instruction of its own (R198). -/
def Obligations.EncodeDecodeRoundTrip : Prop :=
  ∀ (i : Instr) (rest : List Byte), i.wf = true → (i = .prefixCB → rest = []) →
    decode (encode i ++ rest) = .ok (i, rest)

/-- Every list of bytes that decodes is the encoding of what it decodes to, followed by the rest, and what it decodes to is well
formed: no two instructions share bytes. -/
def Obligations.DecodeEncodeRoundTrip : Prop :=
  ∀ (bs : List Byte) (i : Instr) (rest : List Byte), decode bs = .ok (i, rest) → encode i ++ rest = bs ∧ i.wf = true

/-- Words written out bit by bit from the encodings of the spec: `01 yyy zzz` (R210), `00 yyy 110` (R211), `00 pp0 001` (R229),
`10 aaa zzz` (R240), `001 cc 000` (R294), `11 yyy 111` (R303), the prefix with `01 bbb zzz` (R283), the illegal 0xD3 (R155). -/
def Obligations.DecodeSamples : Prop :=
  decode [0b01000001#8] = .ok (.ld_B_C, []) ∧
  decode [0b00010110#8, 0x7F] = .ok (.ld_D_n8 0x7F, []) ∧
  decode [0b00100001#8, 0x34, 0x12] = .ok (.ld_HL_n16 0x1234, []) ∧
  decode [0b10001011#8] = .ok (.adc_A_E, []) ∧
  decode [0b00101000#8, 0x05] = .ok (.jr_Z_e8 0x05, []) ∧
  decode [0b11101111#8] = .ok (.rst_28, []) ∧
  decode [0b11001011#8, 0b01100101#8] = .ok (.bit_4_L, []) ∧
  decode [0b11010011#8] = .ok (.illegal 0xD3, [])

/-- The opcode map is total: three bytes always begin with a well-formed instruction of the length its encoding has, and it is an
opcode without an entry exactly for the eleven opcodes (R155, R195). -/
def Obligations.OpcodeMapTotal : Prop :=
  ∀ op b c : Byte, ∃ i rest, decode [op, b, c] = .ok (i, rest) ∧ i.wf = true ∧ i.length + rest.length = 3 ∧
    ((∃ o, i = .illegal o) ↔
      op ∈ ([0xD3, 0xDB, 0xDD, 0xE3, 0xE4, 0xEB, 0xEC, 0xED, 0xF4, 0xFC, 0xFD] : List Byte))

/-! ## One step -/

/-- A step runs the decoded instruction: without a fault and without an interrupt to dispatch, a CPU that is not halted (or is
being woken) fetches at PC, moves PC past the instruction, runs `exec`, lets a delayed `EI` take effect, and commits. That `exec`
is given PC already past the instruction's bytes is the model's choice (log entry 24), and that the bytes are decoded from three
bytes read at once is the model's inference (log entry 15). -/
def Obligations.StepRunsInstruction : Prop :=
  ∀ (s t : State) (i : Instr) (rest : List Byte), s.fault = none →
    (s.serviceable = 0 ∧ s.cpu.halted = false ∨ s.serviceable ≠ 0 ∧ s.cpu.ime = false) →
    decode [s.busRead s.cpu.pc, s.busRead (s.cpu.pc + 1), s.busRead (s.cpu.pc + 2)] = .ok (i, rest) →
    exec i { s with cpu := { s.cpu with halted := false, pc := s.cpu.pc + BitVec.ofNat 16 i.length } } = .next t →
    t.fault = none → (t.settleIme s.cpu.imePending).commit.fault = none →
    step s = .next (t.settleIme s.cpu.imePending).commit

/-- An opcode without an entry: its meaning is the fatal error with the opcode and its address; a step that fetches one ends in
it and leaves the state as it was but for the recorded fault; a machine with a fault set does not run (R34, R199, R496). That
`exec` names the byte before the PC it is given is the model's choice (log entry 24); that `iterate` answers the state with the
fault recorded, where the spec's Iterate returns the error, is the model's inference (log entry 12). A CPU that is being woken
with IME 0 and meets such an opcode is in `OnlyIllegalOpcodesStop`. -/
def Obligations.IllegalOpcodeIsFatal : Prop :=
  (∀ (op : Byte) (s : State), exec (.illegal op) s = .fault (.undefinedOpcode op (s.cpu.pc - 1))) ∧
  (∀ s : State, s.fault = none → s.serviceable = 0 → s.cpu.halted = false →
    s.busRead s.cpu.pc ∈ ([0xD3, 0xDB, 0xDD, 0xE3, 0xE4, 0xEB, 0xEC, 0xED, 0xF4, 0xFC, 0xFD] : List Byte) →
    s.iterate = .next { s with fault := some (.undefinedOpcode (s.busRead s.cpu.pc) s.cpu.pc) } ∧
      step s = .fault (.undefinedOpcode (s.busRead s.cpu.pc) s.cpu.pc)) ∧
  (∀ (s : State) (f : Fault), s.fault = some f → step s = .fault f)

/-- The two updates the statements below are written with: charging `n` machine cycles stages 4 master cycles each, 2 at double
speed, and writing a general register changes that register; neither changes anything else in the whole state (R8, R25, R143,
R177, R196, R204). -/
def Obligations.ChargeAndRegisterWrite : Prop :=
  ∀ (s : State) (n : Nat) (v : Byte),
    s.charge n = { s with sched := { s.sched with staged := s.sched.staged + n * (if s.cpu.speed then 2 else 4) } } ∧
    s.setReg .b v = { s with cpu := { s.cpu with b := v } } ∧ s.setReg .c v = { s with cpu := { s.cpu with c := v } } ∧
    s.setReg .d v = { s with cpu := { s.cpu with d := v } } ∧ s.setReg .e v = { s with cpu := { s.cpu with e := v } } ∧
    s.setReg .h v = { s with cpu := { s.cpu with h := v } } ∧ s.setReg .l v = { s with cpu := { s.cpu with l := v } } ∧
    s.setReg .a v = { s with cpu := { s.cpu with a := v } } ∧
    (∀ r r' : Reg8, (s.setReg r v).reg r' = if r' = r then v else s.reg r')

/-! ## Loads and stack

Each says first how the instruction is encoded, then, for every state and operand, the next state `exec` answers. -/

/-- `LD r,r'`, `LD r,n`, `LD r,(HL)`: the destination register gets the source, nothing else changes but the cost; a load
through HL reads at the old HL (R210, R211, R212). -/
def Obligations.RegisterLoads : Prop :=
  ∀ (s : State) (dst src : Reg8) (n : Byte),
    decodesTo [BitVec.ofNat 8 (0x40 + 8 * dst.field + src.field)] (.ldRR dst src) ∧
    decodesTo [BitVec.ofNat 8 (0x06 + 8 * dst.field), n] (.ldRN dst n) ∧
    decodesTo [BitVec.ofNat 8 (0x46 + 8 * dst.field)] (.ldRM dst) ∧
    exec (Form.ldRR dst src).instr s = .next ((s.setReg dst (s.reg src)).charge 1) ∧
    exec (Form.ldRN dst n).instr s = .next ((s.setReg dst n).charge 2) ∧
    exec (Form.ldRM dst).instr s = .next ((s.setReg dst (s.busRead (Word.ofBytes s.cpu.h s.cpu.l))).charge 2)

/-- The loads of A from memory: through BC, through DE, absolute, from the high page by C and by an immediate byte, where only A
changes; and the loads and stores of A through HL that move HL, where the access uses the old HL and HL then wraps modulo 65536
(R215, R216, R219, R221, R223, R225 to R228). -/
def Obligations.AccumulatorTransfers : Prop :=
  ∀ (s : State) (n : Byte) (nn u d : Word),
    u = Word.ofBytes s.cpu.h s.cpu.l + 1 → d = Word.ofBytes s.cpu.h s.cpu.l - 1 →
    (decodesTo [0x0A] .ldABC ∧ decodesTo [0x1A] .ldADE ∧ decodesTo [0xFA, nn.extractLsb' 0 8, nn.extractLsb' 8 8] (.ldANN nn) ∧
      decodesTo [0xF2] .ldhAC ∧ decodesTo [0xF0, n] (.ldhAN n) ∧ decodesTo [0x3A] .ldAHLd ∧ decodesTo [0x32] .ldHLdA ∧
      decodesTo [0x2A] .ldAHLi ∧ decodesTo [0x22] .ldHLiA) ∧
    exec Form.ldABC.instr s =
      .next ({ s with cpu := { s.cpu with a := s.busRead (Word.ofBytes s.cpu.b s.cpu.c) } }.charge 2) ∧
    exec Form.ldADE.instr s =
      .next ({ s with cpu := { s.cpu with a := s.busRead (Word.ofBytes s.cpu.d s.cpu.e) } }.charge 2) ∧
    exec (Form.ldANN nn).instr s = .next ({ s with cpu := { s.cpu with a := s.busRead nn } }.charge 4) ∧
    exec Form.ldhAC.instr s =
      .next ({ s with cpu := { s.cpu with a := s.busRead (0xFF00 + s.cpu.c.zeroExtend 16) } }.charge 2) ∧
    exec (Form.ldhAN n).instr s =
      .next ({ s with cpu := { s.cpu with a := s.busRead (0xFF00 + n.zeroExtend 16) } }.charge 3) ∧
    exec Form.ldAHLi.instr s =
      .next ({ s with cpu := { s.cpu with
        a := s.busRead (Word.ofBytes s.cpu.h s.cpu.l), h := u.extractLsb' 8 8, l := u.extractLsb' 0 8 } }.charge 2) ∧
    exec Form.ldAHLd.instr s =
      .next ({ s with cpu := { s.cpu with
        a := s.busRead (Word.ofBytes s.cpu.h s.cpu.l), h := d.extractLsb' 8 8, l := d.extractLsb' 0 8 } }.charge 2) ∧
    (∀ t : State, t = s.busWrite (Word.ofBytes s.cpu.h s.cpu.l) s.cpu.a →
      exec Form.ldHLiA.instr s =
        .next ({ t with cpu := { t.cpu with h := u.extractLsb' 8 8, l := u.extractLsb' 0 8 } }.charge 2) ∧
      exec Form.ldHLdA.instr s =
        .next ({ t with cpu := { t.cpu with h := d.extractLsb' 8 8, l := d.extractLsb' 0 8 } }.charge 2))

/-- The one-byte stores: each is one bus write at the address the rule computes, of the byte the rule names, and its cost
(R213, R214, R217, R218, R220, R222, R224). What the write does to memory is `StorageWrites`. -/
def Obligations.ByteStores : Prop :=
  ∀ (s : State) (src : Reg8) (n : Byte) (nn : Word),
    (decodesTo [BitVec.ofNat 8 (0x70 + src.field)] (.ldMR src) ∧ decodesTo [0x36, n] (.ldMN n) ∧ decodesTo [0x02] .ldBCA ∧
      decodesTo [0x12] .ldDEA ∧ decodesTo [0xEA, nn.extractLsb' 0 8, nn.extractLsb' 8 8] (.ldNNA nn) ∧
      decodesTo [0xE2] .ldhCA ∧ decodesTo [0xE0, n] (.ldhNA n)) ∧
    exec (Form.ldMR src).instr s = .next ((s.busWrite (Word.ofBytes s.cpu.h s.cpu.l) (s.reg src)).charge 2) ∧
    exec (Form.ldMN n).instr s = .next ((s.busWrite (Word.ofBytes s.cpu.h s.cpu.l) n).charge 3) ∧
    exec Form.ldBCA.instr s = .next ((s.busWrite (Word.ofBytes s.cpu.b s.cpu.c) s.cpu.a).charge 2) ∧
    exec Form.ldDEA.instr s = .next ((s.busWrite (Word.ofBytes s.cpu.d s.cpu.e) s.cpu.a).charge 2) ∧
    exec (Form.ldNNA nn).instr s = .next ((s.busWrite nn s.cpu.a).charge 4) ∧
    exec Form.ldhCA.instr s = .next ((s.busWrite (0xFF00 + s.cpu.c.zeroExtend 16) s.cpu.a).charge 2) ∧
    exec (Form.ldhNA n).instr s = .next ((s.busWrite (0xFF00 + n.zeroExtend 16) s.cpu.a).charge 3)

/-- The 16-bit loads: an immediate word into a pair or SP, SP stored low byte first with the address wrapping, and SP from HL
(R229, R230, R231). -/
def Obligations.WordLoads : Prop :=
  ∀ (s : State) (p : Pair) (nn : Word) (lo hi : Byte), lo = nn.extractLsb' 0 8 → hi = nn.extractLsb' 8 8 →
    (decodesTo [BitVec.ofNat 8 (0x01 + 16 * p.field), lo, hi] (.ldPairNN p nn) ∧ decodesTo [0x08, lo, hi] (.ldNNSP nn) ∧
      decodesTo [0xF9] .ldSPHL) ∧
    exec (Form.ldPairNN .bc nn).instr s = .next ({ s with cpu := { s.cpu with b := hi, c := lo } }.charge 3) ∧
    exec (Form.ldPairNN .de nn).instr s = .next ({ s with cpu := { s.cpu with d := hi, e := lo } }.charge 3) ∧
    exec (Form.ldPairNN .hl nn).instr s = .next ({ s with cpu := { s.cpu with h := hi, l := lo } }.charge 3) ∧
    exec (Form.ldPairNN .sp nn).instr s = .next ({ s with cpu := { s.cpu with sp := nn } }.charge 3) ∧
    exec (Form.ldNNSP nn).instr s =
      .next (((s.busWrite nn (s.cpu.sp.extractLsb' 0 8)).busWrite (nn + 1) (s.cpu.sp.extractLsb' 8 8)).charge 5) ∧
    exec Form.ldSPHL.instr s =
      .next ({ s with cpu := { s.cpu with sp := Word.ofBytes s.cpu.h s.cpu.l } }.charge 2)

/-- `PUSH`: the high byte is written one below SP, the low byte two below, SP ends two lower modulo 65536, nothing else changes
but what the two bus writes do and the cost; the low byte of AF is the flag byte with a zero low nibble. `POP`: the low byte is
read at SP, the high byte at SP + 1, SP ends two higher modulo 65536; `POP AF` loads the flags from bits 7 to 4 of the low byte;
nothing else changes (R232, R233). -/
def Obligations.PushAndPop : Prop :=
  (∀ q : StackPair, decodesTo [BitVec.ofNat 8 (0xC5 + 16 * q.field)] (.push q) ∧
    decodesTo [BitVec.ofNat 8 (0xC1 + 16 * q.field)] (.pop q)) ∧
  (∀ (s : State) (q : StackPair) (hi lo : Byte),
    (q = .bc → hi = s.cpu.b ∧ lo = s.cpu.c) → (q = .de → hi = s.cpu.d ∧ lo = s.cpu.e) →
    (q = .hl → hi = s.cpu.h ∧ lo = s.cpu.l) →
    (q = .af → hi = s.cpu.a ∧ lo = BitVec.ofBool s.cpu.f.z ++ BitVec.ofBool s.cpu.f.n ++ BitVec.ofBool s.cpu.f.h ++
      BitVec.ofBool s.cpu.f.c ++ (0 : BitVec 4)) →
    ∀ t u : State, t = { s with cpu := { s.cpu with sp := s.cpu.sp - 1 } }.busWrite (s.cpu.sp - 1) hi →
      u = { t with cpu := { t.cpu with sp := s.cpu.sp - 2 } }.busWrite (s.cpu.sp - 2) lo →
      exec (Form.push q).instr s = .next (u.charge 4)) ∧
  (∀ (s : State) (lo hi : Byte), lo = s.busRead s.cpu.sp → hi = s.busRead (s.cpu.sp + 1) →
    exec (Form.pop .bc).instr s = .next ({ s with cpu := { s.cpu with b := hi, c := lo, sp := s.cpu.sp + 2 } }.charge 3) ∧
    exec (Form.pop .de).instr s = .next ({ s with cpu := { s.cpu with d := hi, e := lo, sp := s.cpu.sp + 2 } }.charge 3) ∧
    exec (Form.pop .hl).instr s = .next ({ s with cpu := { s.cpu with h := hi, l := lo, sp := s.cpu.sp + 2 } }.charge 3) ∧
    exec (Form.pop .af).instr s =
      .next ({ s with cpu := { s.cpu with
        a := hi, f := { z := lo.getLsbD 7, n := lo.getLsbD 6, h := lo.getLsbD 5, c := lo.getLsbD 4 }
        sp := s.cpu.sp + 2 } }.charge 3))

/-- `LD HL,SP+e` and `ADD SP,e`: the signed sum; Z and N are 0, Hf and Cf are the carries of the unsigned sum of the low byte of
SP and the operand byte (R234, R260). -/
def Obligations.StackPointerPlus : Prop :=
  ∀ (s : State) (e : Byte) (w : Word) (f : Flags), w = s.cpu.sp + e.signExtend 16 →
    f = { z := false, n := false, h := decide (0x0F < (s.cpu.sp &&& 0x0F).toNat + (e &&& 0x0F).toNat),
          c := decide (0xFF < (s.cpu.sp &&& 0xFF).toNat + e.toNat) } →
    decodesTo [0xF8, e] (.ldHLSPe e) ∧ decodesTo [0xE8, e] (.addSPe e) ∧
    exec (Form.ldHLSPe e).instr s =
      .next ({ s with cpu := { s.cpu with h := w.extractLsb' 8 8, l := w.extractLsb' 0 8, f := f } }.charge 3) ∧
    exec (Form.addSPe e).instr s = .next ({ s with cpu := { s.cpu with sp := w, f := f } }.charge 4)

/-! ## Arithmetic and logic -/

/-- `ADD A,v` and `ADC A,v`, in every form: the sum, with the incoming carry for `ADC`, and its four flags; only A and the flags
change (R241, R242). -/
def Obligations.AddWithCarry : Prop :=
  aluEncodings .add ∧ aluEncodings .adc ∧
  ∀ (s : State) (i : Instr) (v : Byte) (m k : Nat) (r : Byte),
    (aluOperand .add s i v m ∧ k = 0 ∨ aluOperand .adc s i v m ∧ k = s.cpu.f.c.toNat) →
    r = BitVec.ofNat 8 (s.cpu.a.toNat + v.toNat + k) →
    exec i s =
      .next ({ s with cpu := { s.cpu with
        a := r
        f := { z := decide (r = 0), n := false
               h := decide (0x0F < (s.cpu.a &&& 0x0F).toNat + (v &&& 0x0F).toNat + k)
               c := decide (0xFF < s.cpu.a.toNat + v.toNat + k) } } }.charge m)

/-- `SUB v`, `SBC A,v` and `CP v`, in every form: the difference, with the incoming borrow for `SBC`, and its four flags; `CP`
keeps A; only A and the flags change (R243, R244, R248). -/
def Obligations.SubtractWithBorrow : Prop :=
  aluEncodings .sub ∧ aluEncodings .sbc ∧ aluEncodings .cp ∧
  ∀ (s : State) (i : Instr) (v : Byte) (m k : Nat) (r : Byte) (keep : Bool),
    (aluOperand .sub s i v m ∧ k = 0 ∧ keep = false ∨
      aluOperand .sbc s i v m ∧ k = s.cpu.f.c.toNat ∧ keep = false ∨
      aluOperand .cp s i v m ∧ k = 0 ∧ keep = true) →
    r = BitVec.ofInt 8 ((s.cpu.a.toNat : Int) - v.toNat - k) →
    exec i s =
      .next ({ s with cpu := { s.cpu with
        a := if keep then s.cpu.a else r
        f := { z := decide (r = 0), n := true
               h := decide ((s.cpu.a &&& 0x0F).toNat < (v &&& 0x0F).toNat + k)
               c := decide (s.cpu.a.toNat < v.toNat + k) } } }.charge m)

/-- `AND`, `XOR` and `OR`, in every form: the bitwise result and its flags, Hf set by `AND` only (R245, R246, R247). -/
def Obligations.BitwiseLogic : Prop :=
  aluEncodings .and ∧ aluEncodings .xor ∧ aluEncodings .or ∧
  ∀ (s : State) (i : Instr) (v : Byte) (m : Nat) (r : Byte) (h : Bool),
    (aluOperand .and s i v m ∧ r = s.cpu.a &&& v ∧ h = true ∨
      aluOperand .xor s i v m ∧ r = s.cpu.a ^^^ v ∧ h = false ∨
      aluOperand .or s i v m ∧ r = s.cpu.a ||| v ∧ h = false) →
    exec i s =
      .next ({ s with cpu := { s.cpu with
        a := r, f := { z := decide (r = 0), n := false, h := h, c := false } } }.charge m)

/-- `INC` and `DEC` of a register and of the byte at HL: the result wraps, Z is from the result, Hf from the low nibble, N tells
which, Cf is kept; the memory forms read, then write, at HL (R249 to R252). -/
def Obligations.IncrementDecrement : Prop :=
  ∀ (s : State) (r : Reg8) (v w : Byte), v = s.reg r → w = s.busRead (Word.ofBytes s.cpu.h s.cpu.l) →
    (decodesTo [BitVec.ofNat 8 (0x04 + 8 * r.field)] (.incR r) ∧ decodesTo [BitVec.ofNat 8 (0x05 + 8 * r.field)] (.decR r) ∧
      decodesTo [0x34] .incM ∧ decodesTo [0x35] .decM) ∧
    exec (Form.incR r).instr s =
      .next (((s.setReg r (v + 1)).setFlags
        { z := decide (v = 0xFF), n := false, h := decide (v &&& 0x0F = 0x0F), c := s.cpu.f.c }).charge 1) ∧
    exec (Form.decR r).instr s =
      .next (((s.setReg r (v - 1)).setFlags
        { z := decide (v = 1), n := true, h := decide (v &&& 0x0F = 0), c := s.cpu.f.c }).charge 1) ∧
    exec Form.incM.instr s =
      .next (((s.busWrite (Word.ofBytes s.cpu.h s.cpu.l) (w + 1)).setFlags
        { z := decide (w = 0xFF), n := false, h := decide (w &&& 0x0F = 0x0F), c := s.cpu.f.c }).charge 3) ∧
    exec Form.decM.instr s =
      .next (((s.busWrite (Word.ofBytes s.cpu.h s.cpu.l) (w - 1)).setFlags
        { z := decide (w = 1), n := true, h := decide (w &&& 0x0F = 0), c := s.cpu.f.c }).charge 3)

/-- `DAA`, `CPL`, `SCF`, `CCF`. `DAA`: after an addition 0x60 is added if Cf is set or A exceeds 0x99, and 0x06 if Hf is set or
the low digit exceeds 9; after a subtraction the flags alone decide what is subtracted; Hf is cleared, Cf set or kept, N kept
(R253 to R256). -/
def Obligations.AccumulatorAdjustments : Prop :=
  ∀ (s : State) (hi lo : Bool) (r : Byte),
    hi = (s.cpu.f.c || (!s.cpu.f.n && decide (0x99 < s.cpu.a.toNat))) →
    lo = (s.cpu.f.h || (!s.cpu.f.n && decide (0x09 < (s.cpu.a &&& 0x0F).toNat))) →
    r = (if s.cpu.f.n then s.cpu.a - (if hi then 0x60 else 0) - (if lo then 0x06 else 0)
         else s.cpu.a + (if hi then 0x60 else 0) + (if lo then 0x06 else 0)) →
    (decodesTo [0x27] .daa ∧ decodesTo [0x2F] .cpl ∧ decodesTo [0x37] .scf ∧ decodesTo [0x3F] .ccf) ∧
    exec Form.daa.instr s =
      .next ({ s with cpu := { s.cpu with
        a := r, f := { z := decide (r = 0), n := s.cpu.f.n, h := false, c := hi } } }.charge 1) ∧
    exec Form.cpl.instr s =
      .next ({ s with cpu := { s.cpu with a := s.cpu.a ^^^ 0xFF, f := { s.cpu.f with n := true, h := true } } }.charge 1) ∧
    exec Form.scf.instr s =
      .next ({ s with cpu := { s.cpu with f := { s.cpu.f with n := false, h := false, c := true } } }.charge 1) ∧
    exec Form.ccf.instr s =
      .next ({ s with cpu := { s.cpu with f := { s.cpu.f with n := false, h := false, c := !s.cpu.f.c } } }.charge 1)

/-- `ADD HL,rr`, `INC rr`, `DEC rr`: 16-bit results that wrap; `ADD HL` keeps Z and takes Hf from bit 11 and Cf from bit 15;
the other two touch no flag (R257, R258, R259). -/
def Obligations.WordArithmetic : Prop :=
  ∀ (s : State) (p : Pair) (v w : Word),
    v = (match p with
      | .bc => Word.ofBytes s.cpu.b s.cpu.c
      | .de => Word.ofBytes s.cpu.d s.cpu.e
      | .hl => Word.ofBytes s.cpu.h s.cpu.l
      | .sp => s.cpu.sp) →
    w = Word.ofBytes s.cpu.h s.cpu.l + v →
    (decodesTo [BitVec.ofNat 8 (0x09 + 16 * p.field)] (.addHL p) ∧
      decodesTo [BitVec.ofNat 8 (0x03 + 16 * p.field)] (.incPair p) ∧
      decodesTo [BitVec.ofNat 8 (0x0B + 16 * p.field)] (.decPair p)) ∧
    exec (Form.addHL p).instr s =
      .next ({ s with cpu := { s.cpu with
        h := w.extractLsb' 8 8, l := w.extractLsb' 0 8
        f := { z := s.cpu.f.z, n := false
               h := decide (0x0FFF < (Word.ofBytes s.cpu.h s.cpu.l &&& 0x0FFF).toNat + (v &&& 0x0FFF).toNat)
               c := decide (0xFFFF < (Word.ofBytes s.cpu.h s.cpu.l).toNat + v.toNat) } } }.charge 2) ∧
    (∀ (i : Instr) (x : Word),
      (i = (Form.incPair p).instr ∧ x = v + 1 ∨ i = (Form.decPair p).instr ∧ x = v - 1) →
      exec i s =
        .next (State.charge (match p with
          | .bc => { s with cpu := { s.cpu with b := x.extractLsb' 8 8, c := x.extractLsb' 0 8 } }
          | .de => { s with cpu := { s.cpu with d := x.extractLsb' 8 8, e := x.extractLsb' 0 8 } }
          | .hl => { s with cpu := { s.cpu with h := x.extractLsb' 8 8, l := x.extractLsb' 0 8 } }
          | .sp => { s with cpu := { s.cpu with sp := x } }) 2))

/-! ## Rotates, shifts, bits -/

/-- `RLCA`, `RRCA`, `RLA`, `RRA`: A rotated, Cf the bit that fell out, Z always 0. The eight rotates and shifts of the extended
table, on a register and on the byte at HL: the result goes back to where the operand came from, Z from the result, Cf the bit
that fell out (R270 to R273, R275 to R282). -/
def Obligations.RotatesAndShifts : Prop :=
  (decodesTo [0x07] .rlca ∧ decodesTo [0x0F] .rrca ∧ decodesTo [0x17] .rla ∧ decodesTo [0x1F] .rra ∧
    (∀ (rot : RotOp) (r : Reg8), decodesTo [0xCB, BitVec.ofNat 8 (8 * rot.field + r.field)] (.rotR rot r) ∧
      decodesTo [0xCB, BitVec.ofNat 8 (8 * rot.field + 6)] (.rotM rot))) ∧
  (∀ (s t : State) (rot : RotOp) (w : Byte) (out : Bool), rotated rot s.cpu.f.c s.cpu.a w out →
    t = { s with cpu := { s.cpu with a := w, f := { z := false, n := false, h := false, c := out } } } →
      (rot = .rlc → exec Form.rlca.instr s = .next (t.charge 1)) ∧
      (rot = .rrc → exec Form.rrca.instr s = .next (t.charge 1)) ∧
      (rot = .rl → exec Form.rla.instr s = .next (t.charge 1)) ∧
      (rot = .rr → exec Form.rra.instr s = .next (t.charge 1))) ∧
  (∀ (s : State) (rot : RotOp) (r : Reg8) (v w : Byte) (out : Bool) (f : Flags),
    rotated rot s.cpu.f.c v w out → f = { z := decide (w = 0), n := false, h := false, c := out } →
    (v = s.reg r → exec (Form.rotR rot r).instr s = .next (((s.setReg r w).setFlags f).charge 2)) ∧
    (v = s.busRead (Word.ofBytes s.cpu.h s.cpu.l) →
      exec (Form.rotM rot).instr s = .next (((s.busWrite (Word.ofBytes s.cpu.h s.cpu.l) w).setFlags f).charge 4)))

/-- `BIT b`, `RES b`, `SET b`, on a register and on the byte at HL: `BIT` writes nothing back and keeps Cf, `RES` and `SET` touch
no flag (R283, R284, R285). -/
def Obligations.BitOperations : Prop :=
  ∀ (s : State) (b : Oct) (r : Reg8) (v m : Byte), v = s.reg r → m = s.busRead (Word.ofBytes s.cpu.h s.cpu.l) →
    (decodesTo [0xCB, BitVec.ofNat 8 (0x40 + 8 * b.toNat + r.field)] (.bitR b r) ∧
      decodesTo [0xCB, BitVec.ofNat 8 (0x46 + 8 * b.toNat)] (.bitM b) ∧
      decodesTo [0xCB, BitVec.ofNat 8 (0x80 + 8 * b.toNat + r.field)] (.resR b r) ∧
      decodesTo [0xCB, BitVec.ofNat 8 (0x86 + 8 * b.toNat)] (.resM b) ∧
      decodesTo [0xCB, BitVec.ofNat 8 (0xC0 + 8 * b.toNat + r.field)] (.setR b r) ∧
      decodesTo [0xCB, BitVec.ofNat 8 (0xC6 + 8 * b.toNat)] (.setM b)) ∧
    exec (Form.bitR b r).instr s =
      .next ({ s with cpu := { s.cpu with
        f := { z := !v.getLsbD b.toNat, n := false, h := true, c := s.cpu.f.c } } }.charge 2) ∧
    exec (Form.bitM b).instr s =
      .next ({ s with cpu := { s.cpu with
        f := { z := !m.getLsbD b.toNat, n := false, h := true, c := s.cpu.f.c } } }.charge 3) ∧
    exec (Form.resR b r).instr s = .next ((s.setReg r (v &&& ~~~((1 : Byte) <<< b.toNat))).charge 2) ∧
    exec (Form.resM b).instr s =
      .next ((s.busWrite (Word.ofBytes s.cpu.h s.cpu.l) (m &&& ~~~((1 : Byte) <<< b.toNat))).charge 4) ∧
    exec (Form.setR b r).instr s = .next ((s.setReg r (v ||| ((1 : Byte) <<< b.toNat))).charge 2) ∧
    exec (Form.setM b).instr s =
      .next ((s.busWrite (Word.ofBytes s.cpu.h s.cpu.l) (m ||| ((1 : Byte) <<< b.toNat))).charge 4)

/-! ## Control -/

/-- The jumps: PC gets the target; a relative jump counts from the next instruction; a conditional one that is not taken leaves
PC past the instruction and costs one machine cycle less (R291 to R295). -/
def Obligations.Jumps : Prop :=
  ∀ (s : State) (cc : Cond) (nn : Word) (e lo hi : Byte), lo = nn.extractLsb' 0 8 → hi = nn.extractLsb' 8 8 →
    (decodesTo [0xC3, lo, hi] (.jp nn) ∧ decodesTo [BitVec.ofNat 8 (0xC2 + 8 * cc.field), lo, hi] (.jpCc cc nn) ∧
      decodesTo [0x18, e] (.jr e) ∧ decodesTo [BitVec.ofNat 8 (0x20 + 8 * cc.field), e] (.jrCc cc e) ∧
      decodesTo [0xE9] .jpHL) ∧
    exec (Form.jp nn).instr s = .next ({ s with cpu := { s.cpu with pc := nn } }.charge 4) ∧
    exec (Form.jr e).instr s =
      .next ({ s with cpu := { s.cpu with pc := s.cpu.pc + e.signExtend 16 } }.charge 3) ∧
    exec Form.jpHL.instr s =
      .next ({ s with cpu := { s.cpu with pc := Word.ofBytes s.cpu.h s.cpu.l } }.charge 1) ∧
    (conditionMet cc s →
      exec (Form.jpCc cc nn).instr s = .next ({ s with cpu := { s.cpu with pc := nn } }.charge 4) ∧
      exec (Form.jrCc cc e).instr s =
        .next ({ s with cpu := { s.cpu with pc := s.cpu.pc + e.signExtend 16 } }.charge 3)) ∧
    (¬ conditionMet cc s →
      exec (Form.jpCc cc nn).instr s = .next (s.charge 3) ∧ exec (Form.jrCc cc e).instr s = .next (s.charge 2))

/-- `CALL` and `RST`: the address of the next instruction is pushed, high byte first, and PC gets the target; a call that is not
taken leaves SP and the stack alone (R296, R297, R303). -/
def Obligations.CallsAndRestarts : Prop :=
  ∀ (s : State) (cc : Cond) (nn : Word) (k : Oct) (lo hi : Byte) (t u : State),
    lo = nn.extractLsb' 0 8 → hi = nn.extractLsb' 8 8 →
    t = { s with cpu := { s.cpu with sp := s.cpu.sp - 1 } }.busWrite (s.cpu.sp - 1) (s.cpu.pc.extractLsb' 8 8) →
    u = { t with cpu := { t.cpu with sp := s.cpu.sp - 2 } }.busWrite (s.cpu.sp - 2) (s.cpu.pc.extractLsb' 0 8) →
    (decodesTo [0xCD, lo, hi] (.call nn) ∧ decodesTo [BitVec.ofNat 8 (0xC4 + 8 * cc.field), lo, hi] (.callCc cc nn) ∧
      decodesTo [BitVec.ofNat 8 (0xC7 + 8 * k.toNat)] (.rst k)) ∧
    exec (Form.call nn).instr s = .next ({ u with cpu := { u.cpu with pc := nn } }.charge 6) ∧
    exec (Form.rst k).instr s =
      .next ({ u with cpu := { u.cpu with pc := BitVec.ofNat 16 (8 * k.toNat) } }.charge 4) ∧
    (conditionMet cc s →
      exec (Form.callCc cc nn).instr s = .next ({ u with cpu := { u.cpu with pc := nn } }.charge 6)) ∧
    (¬ conditionMet cc s → exec (Form.callCc cc nn).instr s = .next (s.charge 3))

/-- `RET` and `RET cc`: PC gets the word at SP, low byte first, SP ends two higher; a return that is not taken leaves SP alone
(R298, R299). -/
def Obligations.Returns : Prop :=
  ∀ (s : State) (cc : Cond) (a : Word), a = Word.ofBytes (s.busRead (s.cpu.sp + 1)) (s.busRead s.cpu.sp) →
    (decodesTo [0xC9] .ret ∧ decodesTo [BitVec.ofNat 8 (0xC0 + 8 * cc.field)] (.retCc cc)) ∧
    exec Form.ret.instr s = .next ({ s with cpu := { s.cpu with pc := a, sp := s.cpu.sp + 2 } }.charge 4) ∧
    (conditionMet cc s →
      exec (Form.retCc cc).instr s = .next ({ s with cpu := { s.cpu with pc := a, sp := s.cpu.sp + 2 } }.charge 5)) ∧
    (¬ conditionMet cc s → exec (Form.retCc cc).instr s = .next (s.charge 2))

/-- `RETI`, `NOP`, `DI`, `EI`, `HALT`, `STOP`. `RETI` pops PC and sets IME at once; `EI` sets the pending enable only, if IME is
0, or IME at once with `EI_DELAY = 0`; `STOP` toggles the speed of an armed CGB, charging the new speed, and does nothing
otherwise, whatever its operand byte (45_cpu_control.md; the timing of the enables and the cost of `STOP` are the spec's own
decisions D21 and D23). -/
def Obligations.CpuControl : Prop :=
  ∀ (s : State) (n : Byte),
    (decodesTo [0xD9] .reti ∧ decodesTo [0x00] .nop ∧ decodesTo [0xF3] .di ∧ decodesTo [0xFB] .ei ∧ decodesTo [0x76] .halt ∧
      decodesTo [0x10, n] (.stop n)) ∧
    exec Form.reti.instr s =
      .next ({ s with cpu := { s.cpu with
        pc := Word.ofBytes (s.busRead (s.cpu.sp + 1)) (s.busRead s.cpu.sp), sp := s.cpu.sp + 2, ime := true
        imePending := false } }.charge 4) ∧
    exec Form.nop.instr s = .next (s.charge 1) ∧
    exec Form.di.instr s = .next ({ s with cpu := { s.cpu with ime := false, imePending := false } }.charge 1) ∧
    (s.cfg.eiDelay = true → s.cpu.ime = false →
      exec Form.ei.instr s = .next ({ s with cpu := { s.cpu with imePending := true } }.charge 1)) ∧
    (s.cfg.eiDelay = true → s.cpu.ime = true → exec Form.ei.instr s = .next (s.charge 1)) ∧
    (s.cfg.eiDelay = false →
      exec Form.ei.instr s = .next ({ s with cpu := { s.cpu with ime := true } }.charge 1)) ∧
    exec Form.halt.instr s = .next ({ s with cpu := { s.cpu with halted := true } }.charge 1) ∧
    (s.cfg.model = .cgb → s.cpu.speedArmed = true →
      exec (Form.stop n).instr s =
        .next ({ s with cpu := { s.cpu with speed := !s.cpu.speed, speedArmed := false } }.charge 1)) ∧
    (s.cfg.model = .dmg ∨ s.cpu.speedArmed = false → exec (Form.stop n).instr s = .next (s.charge 1))

/-- The prefix byte 0xCB fetches one more byte and runs that row of the extended table; it always completes, and adds nothing to
the row's cost (R198). That the prefix byte has a meaning of its own, `exec .prefixCB`, is the model's choice (log entry 16); the
spec says that it is not an instruction of its own. -/
def Obligations.PrefixDispatches : Prop :=
  ∀ s : State, ∃ t,
    exec .prefixCB s = .next t ∧
    exec (decodeExtended (s.busRead s.cpu.pc)).instr { s with cpu := { s.cpu with pc := s.cpu.pc + 1 } } = .next t

/-! ## Memory -/

/-- A write into VRAM or OAM that is not blocked, or into WRAM or HRAM, stores the byte at the place behind the address in that
one memory and changes nothing else: no other byte of it, no other memory or bank, no other part of the state. Every address with
the same place behind it (the echo of WRAM included) then reads the byte written, every other address reads as before, and the
memories keep their canonical form (R85, R87). -/
def Obligations.StorageWrites : Prop :=
  (∀ (s : State) (a : Word) (v : Byte) (k : Nat),
    (s.region a = .vram k → s.cpuBlocked = false →
      s.busWrite a v = { s with mems := { s.mems with vram := s.mems.vram.write k v } }) ∧
    (s.region a = .oam k → s.cpuBlocked = false →
      s.busWrite a v = { s with mems := { s.mems with oam := s.mems.oam.write k v } }) ∧
    (s.region a = .wram k → s.busWrite a v = { s with mems := { s.mems with wram := s.mems.wram.write k v } }) ∧
    (s.region a = .hram k → s.busWrite a v = { s with mems := { s.mems with hram := s.mems.hram.write k v } })) ∧
  (∀ (m : Memory) (size k j : Nat) (v : Byte), m.wf size = true →
    (m.write k v).read j = if j = k then v else m.read j) ∧
  (∀ (s : State) (a : Word) (v : Byte), s.MemWf → s.DmgInv →
    (match s.region a with
      | .wram _ | .hram _ => True
      | .vram _ | .oam _ => s.cpuBlocked = false
      | .boot _ | .cart _ | .io _ | .unmapped | .ie => False) →
    (∀ b : Word, (s.busWrite a v).busRead b = if s.region b = s.region a then v else s.busRead b) ∧
    (s.busWrite a v).MemWf)

/-- The decode of the address space: windows, banks, echo, the unmapped hole, and the CGB registers that a DMG does not have
(R39, R87, R91, R92). -/
def Obligations.AddressMap : Prop :=
  ∀ (s : State) (a : Word), s.mems.bootMapped = false →
    (a.toNat < 0x8000 ∨ 0xA000 ≤ a.toNat ∧ a.toNat < 0xC000 → s.region a = .cart a.toNat) ∧
    (0x8000 ≤ a.toNat → a.toNat < 0xA000 → s.region a = .vram (8192 * s.mems.vbk.toNat + (a.toNat - 0x8000))) ∧
    (0xC000 ≤ a.toNat → a.toNat < 0xD000 → s.region a = .wram (a.toNat - 0xC000)) ∧
    (0xD000 ≤ a.toNat → a.toNat < 0xE000 →
      s.region a =
        .wram (4096 * (if s.cfg.model = .dmg then 1 else max 1 s.mems.svbk.toNat) + (a.toNat - 0xD000))) ∧
    (0xE000 ≤ a.toNat → a.toNat < 0xFE00 → s.region a = s.region (a - 0x2000)) ∧
    (0xFE00 ≤ a.toNat → a.toNat < 0xFEA0 → s.region a = .oam (a.toNat - 0xFE00)) ∧
    (0xFEA0 ≤ a.toNat → a.toNat < 0xFF00 → s.region a = .unmapped) ∧
    (0xFF80 ≤ a.toNat → a.toNat < 0xFFFF → s.region a = .hram (a.toNat - 0xFF80)) ∧
    (a = 0xFFFF → s.region a = .ie) ∧
    (s.cfg.model = .dmg →
      a ∈ ([0xFF4D, 0xFF4F, 0xFF51, 0xFF52, 0xFF53, 0xFF54, 0xFF55, 0xFF68, 0xFF69, 0xFF6A, 0xFF6B, 0xFF70] : List Word) →
      s.region a = .unmapped)

/-- Unmapped addresses, and VRAM and OAM while the display is on in Mode 3, read 0xFF and drop writes; the DMA engines' reads
are not blocked (R84, R85, R86, R89, R91). -/
def Obligations.FillsAndDroppedWrites : Prop :=
  ∀ (s : State) (a : Word) (v : Byte),
    (s.region a = .unmapped → s.busRead a = 0xFF ∧ s.busWrite a v = s) ∧
    (∀ k, s.region a = .vram k → s.ppu.lcdc.getLsbD 7 = true → s.ppu.mode = .transfer →
      s.busRead a = 0xFF ∧ s.busWrite a v = s ∧ s.dmaRead a = s.mems.vram.read k) ∧
    (∀ k, s.region a = .oam k → s.ppu.lcdc.getLsbD 7 = true → s.ppu.mode = .transfer →
      s.busRead a = 0xFF ∧ s.busWrite a v = s ∧ s.dmaRead a = s.mems.oam.read k)

/-- The forms that store nothing, `STOP` apart, leave every address reading as before, DIV apart, which shows time (R93, R431).
For the forms that load, the clause at the addresses of the joypad and the serial port, 0xFF00 to 0xFF02, rests on the model's
choice that reading these devices changes nothing (log entry 7); the spec says that a read there is whatever the collaborator
makes it. -/
def Obligations.RegisterFormsKeepMemory : Prop :=
  ∀ (s t : State) (f : Form) (a : Word), exec f.instr s = .next t → a ≠ 0xFF04 →
    (match f with
      | .ldMR _ | .ldMN _ | .ldBCA | .ldDEA | .ldNNA _ | .ldhCA | .ldhNA _ | .ldHLdA | .ldHLiA | .ldNNSP _ | .push _ | .incM
      | .decM | .rotM _ | .resM _ | .setM _ | .call _ | .callCc _ _ | .rst _ | .stop _ | .prefixCB => False
      | _ => True) →
    t.busRead a = s.busRead a

/-- No instruction but `EI`, `DI` and `RETI` changes IME or the pending enable, none but `HALT` halts, none but `STOP` changes the
speed, and none changes the parameters, the committed counter or the audio stream (R20, R30, R32, R33, R75, R484). -/
def Obligations.ControlBitsChangeOnlyBy : Prop :=
  ∀ (s t : State) (i : Instr), exec i s = .next t →
    (i ≠ .ei → i ≠ .di → i ≠ .reti → t.cpu.ime = s.cpu.ime ∧ t.cpu.imePending = s.cpu.imePending) ∧
    (i ≠ .halt → t.cpu.halted = s.cpu.halted) ∧ ((∀ n, i ≠ .stop n) → t.cpu.speed = s.cpu.speed) ∧
    t.cfg = s.cfg ∧ t.sched.cycle = s.sched.cycle ∧ t.sampleOut = s.sampleOut

/-! ## Interrupts -/

/-- Taking an interrupt: with IME set, the lowest bit `i` of IE and IF is dispatched instead of an instruction: the CPU wakes,
IME and its pending enable go to 0, the flag is cleared, PC is pushed high byte first, PC gets 0x0040 + 8 i, five machine
cycles are charged, and the iteration commits (R485, R487, R489). -/
def Obligations.InterruptDispatch : Prop :=
  ∀ (s t u : State) (i : Nat), s.cpu.ime = true → i < 5 → s.irq.enable.getLsbD i = true → s.irq.pending.getLsbD i = true →
    (∀ j, j < i → s.irq.enable.getLsbD j = false ∨ s.irq.pending.getLsbD j = false) →
    t = { s with
          cpu := { s.cpu with halted := false, ime := false, imePending := false, sp := s.cpu.sp - 1 }
          irq := { s.irq with pending := s.irq.pending &&& ~~~((1 : BitVec 5) <<< i) } }.busWrite
      (s.cpu.sp - 1) (s.cpu.pc.extractLsb' 8 8) →
    u = { t with cpu := { t.cpu with sp := s.cpu.sp - 2 } }.busWrite (s.cpu.sp - 2) (s.cpu.pc.extractLsb' 0 8) →
    s.iterate =
      .next ({ u with cpu := { u.cpu with pc := BitVec.ofNat 16 (0x0040 + 8 * i) } }.charge 5).commit

/-- A halted CPU with nothing enabled and pending fetches nothing: time jumps to the due cycle of the nearest event, which is
ahead in a state between iterations, the commit fires it, and PC does not move (R200). -/
def Obligations.HaltedFastForward : Prop :=
  ∀ (s t : State) (h : Handle) (due : Int) (q : List (Handle × Int)), s.cpu.halted = true →
    s.irq.enable &&& s.irq.pending = 0 → s.sched.queue = (h, due) :: q → s.SchedInv →
    t = { s with sched := { s.sched with staged := (due - (s.sched.cycle : Int)).toNat } }.commit →
    s.iterate = .next t ∧ (s.sched.cycle : Int) < due ∧ (t.sched.cycle : Int) = due ∧ t.cpu = s.cpu

/-! ## Scheduler -/

/-- `Schedule` of an idle handle inserts it after every entry due no later and before every entry due later; of a pending handle
it is the fault and changes nothing else; `Cancel` removes that handle's entry only (R173, R174, R175). -/
def Obligations.ScheduleAndCancel : Prop :=
  ∀ (s : State) (h : Handle) (d : Int),
    (s.isPending h = false → dueAscending s.sched.queue = true →
      ∃ before after, s.sched.queue = before ++ after ∧
        (∀ p ∈ before, p.2 ≤ (s.now : Int) + d) ∧ (∀ p ∈ after, (s.now : Int) + d < p.2) ∧
        s.schedule h d =
          { s with sched := { s.sched with queue := before ++ (h, (s.now : Int) + d) :: after } }) ∧
    (s.isPending h = true → s.fault = none →
      s.schedule h d = { s with fault := some (.schedulerMisuse (some h)) }) ∧
    s.cancel h = { s with sched := { s.sched with queue := s.sched.queue.filter (fun p => p.1 ≠ h) } }

/-- `Commit` folds the staged cycles into the counter, moves it no further, and, unless a fault stops it, leaves every pending
event due later than the counter; no callback touches the CPU or the parameters (R100 d, R176, R488). -/
def Obligations.CommitLeavesNothingDue : Prop :=
  ∀ s : State, s.commit.cpu = s.cpu ∧ s.commit.cfg = s.cfg ∧
    (s.fault = none → dueAscending s.sched.queue = true →
      s.commit.sched.cycle = s.sched.cycle + s.sched.staged ∧ s.commit.sched.staged = 0 ∧
      (s.commit.fault = none → ∀ p ∈ s.commit.sched.queue, ((s.sched.cycle + s.sched.staged : Nat) : Int) < p.2))

/-! ## Timer -/

/-- The timer's registers and events. DIV reads bits 15:8 of the counter `now - div_zero`; a write of DIV restarts the counter and
re-arms the increment one full period ahead; TIMA and TMA are read and written whole; TAC reads its three bits under 0xF8, and a
write of it re-arms the increment on the period's grid, or cancels both events (R69, R70, R430, R431, R432, R439, R440).
`EV_TIMER_INC` adds one to TIMA; on overflow the reload is due 4 cycles after the increment was, IF is not touched; the next
increment is due one period after this one was. `EV_TIMER_RELOAD` copies TMA and requests the Timer interrupt (R436, R437). -/
def Obligations.TimerRegistersAndEvents : Prop :=
  (∀ (s : State) (v : Byte), s.cfg.Admissible →
    (s.busRead 0xFF05 = s.timer.tima ∧ s.busWrite 0xFF05 v = { s with timer := { s.timer with tima := v } } ∧
      s.busRead 0xFF06 = s.timer.tma ∧ s.busWrite 0xFF06 v = { s with timer := { s.timer with tma := v } } ∧
      s.busRead 0xFF07 = BitVec.ofNat 8 (0xF8 + s.timer.tac.toNat)) ∧
    s.busRead 0xFF04 = BitVec.ofNat 8 (((s.now : Int) - s.timer.divZero) % 65536 / 256).toNat ∧
    (∀ period : Nat, period = [1024, 16, 64, 256].getD (s.timer.tac &&& 3).toNat 0 → s.fault = none →
      ∃ t : State, t = { s with timer := { s.timer with divZero := (s.now : Int) } }.cancel .timerInc ∧
        s.busWrite 0xFF04 v =
          if s.timer.tac.getLsbD 2 then
            { t with sched := { t.sched with queue := enqueue .timerInc ((s.now : Int) + period) t.sched.queue } }
          else t) ∧
    (∀ period : Nat, period = [1024, 16, 64, 256].getD (v &&& 3).toNat 0 → s.fault = none →
      ∃ t : State, t = { s with timer := { s.timer with tac := v.extractLsb' 0 3 } }.cancel .timerInc ∧
        s.busWrite 0xFF07 v =
          if v.getLsbD 2 then
            { t with sched := { t.sched with
              queue := enqueue .timerInc
                ((s.now : Int) + (period - ((s.now : Int) - s.timer.divZero) % 65536 % period)) t.sched.queue } }
          else t.cancel .timerReload)) ∧
  (∀ (s : State) (late due : Int), due = (s.sched.cycle : Int) - late → s.sched.staged = 0 →
    (s.isPending .timerInc = false → s.isPending .timerReload = false →
      ∀ period : Nat, period = [1024, 16, 64, 256].getD (s.timer.tac &&& 3).toNat 0 →
        s.timerIncEvent late =
          { s with
            timer := { s.timer with tima := s.timer.tima + 1 }
            sched := { s.sched with
              queue := enqueue .timerInc (due + period)
                (if s.timer.tima = 0xFF then enqueue .timerReload (due + 4) s.sched.queue else s.sched.queue) } }) ∧
    s.timerReloadEvent =
      { s with timer := { s.timer with tima := s.timer.tma }, irq := { s.irq with pending := s.irq.pending ||| 4 } })

/-! ## Registers and devices -/

/-- What the CPU reads and writes at the registers of the interrupt controller, the boot overlay, the PPU and, on a CGB, the
speed switch and the banks, and at the devices outside the core. IF reads its five flags under 0xE0, IE its five bits; a write
keeps five bits. A nonzero write of 0xFF50 unmaps the boot ROM, and it reads 0xFF. LY drops writes. KEY1 shows the speed and the
armed bit, of which a write stores the latter only; VBK and SVBK keep 1 and 3 bits. A write of JOYP, SB or SC changes that
device only, a write of a cartridge window changes only what the cartridge remembers, and what a read there shows depends on the
cartridge and the address only. A cartridge without a bank controller shows its ROM image in the ROM window and drops writes
there, and without RAM it drops every write (R33, R35, R36, R37, R39, R44 to R51, R87, R112, R114, R115, R495). That reading
these devices changes nothing, and that a cartridge without RAM drops the writes to its RAM window, are the model's choices (log
entries 7 and 2). -/
def Obligations.RegistersAndDevices : Prop :=
  (∀ (s : State) (v : Byte), s.cfg.Admissible →
    (s.busRead 0xFF0F = BitVec.ofNat 8 (0xE0 + s.irq.pending.toNat) ∧
      s.busWrite 0xFF0F v = { s with irq := { s.irq with pending := BitVec.ofNat 5 (v.toNat % 32) } } ∧
      s.busRead 0xFFFF = BitVec.ofNat 8 s.irq.enable.toNat ∧
      s.busWrite 0xFFFF v = { s with irq := { s.irq with enable := BitVec.ofNat 5 (v.toNat % 32) } }) ∧
    (s.busRead 0xFF50 = 0xFF ∧
      s.busWrite 0xFF50 v = { s with mems := { s.mems with bootMapped := s.mems.bootMapped && decide (v = 0) } }) ∧
    (s.busRead 0xFF40 = s.ppu.lcdc ∧ s.busRead 0xFF44 = s.ppu.ly ∧ s.busWrite 0xFF44 v = s ∧
      s.busRead 0xFF45 = s.ppu.lyc ∧ s.busRead 0xFF46 = s.dma.page ∧
      s.busRead 0xFF41 = BitVec.ofNat 8 (0x80 + 8 * s.ppu.statEn.toNat +
        (if s.ppu.lcdc.getLsbD 7 = true ∧ s.ppu.ly = s.ppu.lyc then 4 else 0) + s.ppu.mode.bits.toNat)) ∧
    (s.busRead 0xFF42 = s.ppu.scy ∧ s.busWrite 0xFF42 v = { s with ppu := { s.ppu with scy := v } } ∧
      s.busRead 0xFF43 = s.ppu.scx ∧ s.busWrite 0xFF43 v = { s with ppu := { s.ppu with scx := v } } ∧
      s.busRead 0xFF47 = s.ppu.bgp ∧ s.busWrite 0xFF47 v = { s with ppu := { s.ppu with bgp := v } } ∧
      s.busRead 0xFF48 = s.ppu.obp0 ∧ s.busWrite 0xFF48 v = { s with ppu := { s.ppu with obp0 := v } } ∧
      s.busRead 0xFF49 = s.ppu.obp1 ∧ s.busWrite 0xFF49 v = { s with ppu := { s.ppu with obp1 := v } } ∧
      s.busRead 0xFF4A = s.ppu.wy ∧ s.busWrite 0xFF4A v = { s with ppu := { s.ppu with wy := v } } ∧
      s.busRead 0xFF4B = s.ppu.wx ∧ s.busWrite 0xFF4B v = { s with ppu := { s.ppu with wx := v } }) ∧
    (s.cfg.model = .cgb →
      s.busRead 0xFF4D = (if s.cpu.speed then 0x80 else 0) ||| 0x7E ||| (if s.cpu.speedArmed then 1 else 0) ∧
      s.busWrite 0xFF4D v = { s with cpu := { s.cpu with speedArmed := v.getLsbD 0 } } ∧
      s.busRead 0xFF4F = BitVec.ofNat 8 (0xFE + s.mems.vbk.toNat) ∧
      s.busWrite 0xFF4F v = { s with mems := { s.mems with vbk := BitVec.ofNat 1 (v.toNat % 2) } } ∧
      s.busRead 0xFF70 = BitVec.ofNat 8 (0xF8 + s.mems.svbk.toNat) ∧
      s.busWrite 0xFF70 v = { s with mems := { s.mems with svbk := BitVec.ofNat 3 (v.toNat % 8) } }) ∧
    (s.busRead 0xFF00 = s.joypad.shown ∧ s.busRead 0xFF01 = s.serial.sb ∧ s.busRead 0xFF02 = s.serial.sc ∧
      (∃ joypad, s.busWrite 0xFF00 v = { s with joypad := joypad }) ∧
      (∃ serial, s.busWrite 0xFF01 v = { s with serial := serial }) ∧
      (∃ serial, s.busWrite 0xFF02 v = { s with serial := serial }))) ∧
  (∀ (s : State) (a : Word) (v : Byte) (k : Nat), s.region a = .cart k →
    (∀ t : State, t.region a = .cart k → t.cart = s.cart → t.busRead a = s.busRead a) ∧
    (s.cart.kind = .plain → k < 0x8000 → k < s.cart.romSize → s.busRead a = s.cart.rom.read k) ∧
    (∃ hidden, s.busWrite a v = { s with cart := { s.cart with hidden := hidden } }) ∧
    (s.cart.kind = .plain → k < 0x8000 ∨ s.cart.info.ramSize = 0 → s.busWrite a v = s))

/-! ## PPU -/

/-- The STAT line: a re-evaluation requests the STAT interrupt exactly on a rise of the OR of the enabled sources, records the
level, and changes nothing else; with the display off the recorded level is 0. Writes of STAT and LYC store their bits and
re-evaluate (R333, R353, R354). -/
def Obligations.StatInterruptOnRise : Prop :=
  ∀ (s : State) (v : Byte) (lvl : Bool), s.cfg.Admissible →
    (lvl = (s.ppu.lcdc.getLsbD 7 && ((s.ppu.statEn.getLsbD 0 && decide (s.ppu.mode = .hblank)) ||
        (s.ppu.statEn.getLsbD 1 && decide (s.ppu.mode = .vblank)) ||
        (s.ppu.statEn.getLsbD 2 && decide (s.ppu.mode = .oamScan)) ||
        (s.ppu.statEn.getLsbD 3 && decide (s.ppu.ly = s.ppu.lyc)))) →
      s.statUpdate =
        { s with
          ppu := { s.ppu with statPrev := lvl }
          irq := { s.irq with
            pending := if lvl = true ∧ s.ppu.statPrev = false then s.irq.pending ||| 2 else s.irq.pending } }) ∧
    s.busWrite 0xFF41 v = { s with ppu := { s.ppu with statEn := v.extractLsb' 3 4 } }.statUpdate ∧
    s.busWrite 0xFF45 v = { s with ppu := { s.ppu with lyc := v } }.statUpdate

/-- Turning the display off and on by a write of LCDC: off blanks LY, mode and framebuffer and leaves one pacing event a frame
ahead; on restarts line 0 in Mode 2 with the rest of the frame not rendered; any other write stores the byte only
(R335, R337, R352). -/
def Obligations.DisplayOffAndOn : Prop :=
  ∀ (s : State) (v : Byte) (q : List (Handle × Int)), s.cfg.Admissible → q = dequeue .ppu s.sched.queue →
    (s.ppu.lcdc.getLsbD 7 = v.getLsbD 7 → s.busWrite 0xFF40 v = { s with ppu := { s.ppu with lcdc := v } }) ∧
    (s.ppu.lcdc.getLsbD 7 = true → v.getLsbD 7 = false →
      s.busWrite 0xFF40 v =
        { s with
          ppu := { s.ppu with
            lcdc := v, ly := 0, mode := .hblank, phase := .off, lineStart := (s.now : Int), statPrev := false
            windowLine := 0, scan := [], m3Extra := 0, fb := [] }
          sched := { s.sched with queue := enqueue .ppu ((s.now : Int) + 70224) q } }) ∧
    (s.ppu.lcdc.getLsbD 7 = false → v.getLsbD 7 = true →
      ∃ t : State,
        t = { s with
              ppu := { s.ppu with
                lcdc := v, ly := 0, mode := .oamScan, phase := .m2, lineStart := (s.now : Int), windowLine := 0
                skipFrame := true }
              sched := { s.sched with queue := q } }.statUpdate ∧
        s.busWrite 0xFF40 v =
          { t with sched := { t.sched with queue := enqueue .ppu ((s.now : Int) + 80) q } })

/-- Palette memory on a CGB: an index register takes the increment bit and a six-bit index; a data write stores the byte at the
index and then moves the index on, modulo 64, if the increment bit is set; a data read shows the byte at the index; all of it
in every mode (46_ppu.md section 6; that Mode 3 does not block it is the spec's own decision D35). -/
def Obligations.PaletteAccess : Prop :=
  ∀ (s : State) (v : Byte), s.cfg.Admissible → s.cfg.model = .cgb → s.MemWf →
    s.busWrite 0xFF68 v = { s with ppu := { s.ppu with bcps := { inc := v.getLsbD 7, index := v.extractLsb' 0 6 } } } ∧
    s.busWrite 0xFF6A v = { s with ppu := { s.ppu with ocps := { inc := v.getLsbD 7, index := v.extractLsb' 0 6 } } } ∧
    s.busRead 0xFF69 = s.mems.bgPal.read s.ppu.bcps.index.toNat ∧
    s.busRead 0xFF6B = s.mems.objPal.read s.ppu.ocps.index.toNat ∧
    (∃ pal, s.busWrite 0xFF69 v = { s with
        mems := { s.mems with bgPal := pal }
        ppu := { s.ppu with bcps := { s.ppu.bcps with
          index := BitVec.ofNat 6 ((s.ppu.bcps.index.toNat + s.ppu.bcps.inc.toNat) % 64) } } } ∧
      ∀ k, pal.read k = if k = s.ppu.bcps.index.toNat then v else s.mems.bgPal.read k) ∧
    (∃ pal, s.busWrite 0xFF6B v = { s with
        mems := { s.mems with objPal := pal }
        ppu := { s.ppu with ocps := { s.ppu.ocps with
          index := BitVec.ofNat 6 ((s.ppu.ocps.index.toNat + s.ppu.ocps.inc.toNat) % 64) } } } ∧
      ∀ k, pal.read k = if k = s.ppu.ocps.index.toNat then v else s.mems.objPal.read k)

/-- The line state machine: what each `EV_PPU` makes of phase, mode, LY and the frame counter, which counts at the end of line
153 and with the display off only, the VBlank request at the entry to line 144 only, and when the next event is due, counted
from when this one was due; Modes 2, 3 and 0 take 80, 172 + e and 204 - e cycles (R321, R323, R330, R332). -/
def Obligations.LineStateMachine : Prop :=
  ∀ (s t : State) (late due : Int), due = (s.sched.cycle : Int) - late → s.sched.staged = 0 → s.fault = none →
    s.isPending .ppu = false → t = s.ppuEvent late →
    (s.ppu.phase = .off →
      t = { s with
            ppu := { s.ppu with frame := s.ppu.frame + 1 }
            sched := { s.sched with queue := enqueue .ppu (due + 70224) s.sched.queue } }) ∧
    (s.ppu.phase = .m2 →
      t.ppu.phase = .m3 ∧ t.ppu.mode = .transfer ∧ t.ppu.ly = s.ppu.ly ∧ t.ppu.frame = s.ppu.frame ∧
      t.irq.pending.getLsbD 0 = s.irq.pending.getLsbD 0 ∧ t.ppu.scan = s.oamScan s.ppu.ly.toNat ∧
      t.ppu.m3Extra = s.m3ExtraOf t.ppu.scan.length ∧
      t.sched.queue = enqueue .ppu (due + 172 + t.ppu.m3Extra) s.sched.queue) ∧
    (s.ppu.phase = .m3 →
      t.ppu.phase = .m0 ∧ t.ppu.mode = .hblank ∧ t.ppu.ly = s.ppu.ly ∧ t.ppu.frame = s.ppu.frame ∧
      t.irq.pending.getLsbD 0 = s.irq.pending.getLsbD 0 ∧
      t.sched.queue = enqueue .ppu (due + 204 - s.ppu.m3Extra) s.sched.queue) ∧
    (s.ppu.phase = .m0 → s.ppu.ly = 143 →
      t.ppu.phase = .m1 ∧ t.ppu.mode = .vblank ∧ t.ppu.ly = 144 ∧ t.ppu.frame = s.ppu.frame ∧
      t.irq.pending.getLsbD 0 = true ∧ t.ppu.lineStart = due ∧ t.sched.queue = enqueue .ppu (due + 456) s.sched.queue) ∧
    (s.ppu.phase = .m0 → s.ppu.ly ≠ 143 →
      t.ppu.phase = .m2 ∧ t.ppu.mode = .oamScan ∧ t.ppu.ly = s.ppu.ly + 1 ∧ t.ppu.frame = s.ppu.frame ∧
      t.ppu.lineStart = due ∧ t.irq.pending.getLsbD 0 = s.irq.pending.getLsbD 0 ∧
      t.sched.queue = enqueue .ppu (due + 80) s.sched.queue) ∧
    (s.ppu.phase = .m1 → s.ppu.ly = 153 →
      t.ppu.phase = .m2 ∧ t.ppu.mode = .oamScan ∧ t.ppu.ly = 0 ∧ t.ppu.frame = s.ppu.frame + 1 ∧ t.ppu.skipFrame = false ∧
      t.irq.pending.getLsbD 0 = s.irq.pending.getLsbD 0 ∧ t.ppu.windowLine = 0 ∧ t.ppu.lineStart = due ∧
      t.sched.queue = enqueue .ppu (due + 80) s.sched.queue) ∧
    (s.ppu.phase = .m1 → s.ppu.ly ≠ 153 →
      t.ppu.phase = .m1 ∧ t.ppu.mode = s.ppu.mode ∧ t.ppu.ly = s.ppu.ly + 1 ∧ t.ppu.frame = s.ppu.frame ∧
      t.irq.pending.getLsbD 0 = s.irq.pending.getLsbD 0 ∧ t.ppu.lineStart = due ∧
      t.sched.queue = enqueue .ppu (due + 456) s.sched.queue)

/-- The OAM scan lists at most ten entries, in ascending order, each of which covers the line, and no covering entry below the
last one listed is left out (R339). -/
def Obligations.OamScanSelects : Prop :=
  ∀ (s : State) (ly : Nat),
    (s.oamScan ly).length ≤ 10 ∧ (s.oamScan ly).Pairwise (fun i j => i < j) ∧
    (∀ i ∈ s.oamScan ly, i < 40 ∧ (s.mems.oam.read (4 * i)).toNat ≤ ly + 16 ∧
      ly + 16 < (s.mems.oam.read (4 * i)).toNat + (if s.ppu.lcdc.getLsbD 2 then 16 else 8)) ∧
    (∀ i, i < 40 → (s.mems.oam.read (4 * i)).toNat ≤ ly + 16 →
      ly + 16 < (s.mems.oam.read (4 * i)).toNat + (if s.ppu.lcdc.getLsbD 2 then 16 else 8) →
      i ∈ s.oamScan ly ∨ (s.oamScan ly).length = 10 ∧ ∀ j ∈ s.oamScan ly, j < i)

/-- Rendering a line writes its 160 pixels and no other pixel, and advances the window's line counter only if the window shows
on the line (R340, R343, R345). -/
def Obligations.RenderLineFrame : Prop :=
  ∀ (s : State) (ly : Nat), s.MemWf → ly < 144 →
    (∀ x y, x < 160 → y < 144 →
      (s.renderLine ly).fbPixel x y = if y = ly then s.pixelAt ly x else s.fbPixel x y) ∧
    (∃ fb w, s.renderLine ly = { s with ppu := { s.ppu with fb := fb, windowLine := w } } ∧
      w = if s.windowOnLine ly then s.ppu.windowLine + 1 else s.ppu.windowLine)

/-! ## DMA -/

/-- OAM DMA: a write of 0xFF46 stores the page and (re)starts the wait; the event copies the 160 bytes of the page, pages 0xE0 to
0xFF folded down by 0x2000, unblocked, into OAM, and changes nothing else (R451, R453). -/
def Obligations.OamDmaCopies : Prop :=
  ∀ (s : State) (v : Byte), s.cfg.Admissible →
    s.busWrite 0xFF46 v =
      { s with
        dma := { s.dma with page := v }
        sched := { s.sched with
          queue := enqueue .oamDma ((s.now : Int) + s.cfg.oamDmaDelay) (dequeue .oamDma s.sched.queue) } } ∧
    (s.MemWf →
      (∃ oam, s.oamDmaEvent = { s with mems := { s.mems with oam := oam } }) ∧
      (∀ i, i < 160 → s.oamDmaEvent.mems.oam.read i =
        s.dmaRead (BitVec.ofNat 16 (s.dma.page.toNat * 256 + i) - (if 0xE0 ≤ s.dma.page.toNat then 0x2000 else 0))))

/-- VRAM DMA on a CGB. HDMA1 to HDMA4 keep the byte written and read 0xFF. A write of HDMA5 cancels an HBlank transfer in
flight, or arms one, or runs a general transfer at once: its cycles are staged, then all its bytes are copied, and it is
complete. One byte is read unblocked at the source and written to the current VRAM bank, both addresses advance, the destination
wrapping inside VRAM, and nothing else changes. An HBlank entry copies 16 bytes of a transfer in flight, which ends when nothing
is left, and charges nothing; without a transfer in flight, or on a DMG, it does nothing. HDMA5 reads the blocks left, or 0xFF
(R460, R461, R462, R464, R466, R467). That the byte written to HDMA5 is kept, which the three clauses on a write of 0xFF55 say
as well, is the model's choice (log entry 10). -/
def Obligations.VramDmaTransfers : Prop :=
  (∀ (s : State) (v : Byte), s.cfg.Admissible → s.cfg.model = .cgb →
    (s.busWrite 0xFF51 v = { s with dma := { s.dma with hdma1 := v } } ∧ s.busRead 0xFF51 = 0xFF ∧
      s.busWrite 0xFF52 v = { s with dma := { s.dma with hdma2 := v } } ∧ s.busRead 0xFF52 = 0xFF ∧
      s.busWrite 0xFF53 v = { s with dma := { s.dma with hdma3 := v } } ∧ s.busRead 0xFF53 = 0xFF ∧
      s.busWrite 0xFF54 v = { s with dma := { s.dma with hdma4 := v } } ∧ s.busRead 0xFF54 = 0xFF) ∧
    (s.dma.active = true → v.getLsbD 7 = false →
      s.busWrite 0xFF55 v = { s with dma := { s.dma with hdma5 := v, active := false } }) ∧
    (v.getLsbD 7 = true →
      s.busWrite 0xFF55 v =
        { s with dma := { s.dma with
          hdma5 := v, src := Word.ofBytes s.dma.hdma1 s.dma.hdma2 &&& 0xFFF0
          dst := 0x8000 ||| (Word.ofBytes s.dma.hdma3 s.dma.hdma4 &&& 0x1FF0)
          remaining := ((v &&& 0x7F).toNat + 1) * 16, complete := false, mode := .hblank, active := true } }) ∧
    (∀ (n : Nat) (t u : State), s.dma.active = false → v.getLsbD 7 = false → n = ((v &&& 0x7F).toNat + 1) * 16 →
      t = { s with
            sched := { s.sched with staged := s.sched.staged + n * s.cfg.gdmaCyclesPerByte }
            dma := { s.dma with
              hdma5 := v, src := Word.ofBytes s.dma.hdma1 s.dma.hdma2 &&& 0xFFF0
              dst := 0x8000 ||| (Word.ofBytes s.dma.hdma3 s.dma.hdma4 &&& 0x1FF0)
              remaining := n, complete := false, mode := .general, active := false } } →
      u = State.vdmaCopyBytes n t →
      s.busWrite 0xFF55 v = { u with dma := { u.dma with complete := true } } ∧ u.dma.remaining = 0 ∧
      u.dma.src = t.dma.src + BitVec.ofNat 16 n) ∧
    s.busRead 0xFF55 =
      if s.dma.complete then 0xFF
      else (if s.dma.active then 0 else 0x80) ||| (BitVec.ofInt 8 ((s.dma.remaining / 16 : Nat) - 1) &&& 0x7F)) ∧
  (∀ (s : State) (n : Nat),
    s.vdmaCopyByte =
      { s with
        mems := { s.mems with
          vram := s.mems.vram.write (8192 * s.mems.vbk.toNat + (s.dma.dst - 0x8000).toNat % 0x2000) (s.dmaRead s.dma.src) }
        dma := { s.dma with
          src := s.dma.src + 1
          dst := BitVec.ofNat 16 (0x8000 + (s.dma.dst + 1 - 0x8000).toNat % 0x2000)
          remaining := s.dma.remaining - 1 } } ∧
    State.vdmaCopyBytes 0 s = s ∧ State.vdmaCopyBytes (n + 1) s = (State.vdmaCopyBytes n s).vdmaCopyByte ∧
    (s.cfg.model = .dmg ∨ s.dma.active = false → s.hblankDmaStep = s) ∧
    (∀ u : State, s.cfg.model = .cgb → s.dma.active = true → u = State.vdmaCopyBytes 16 s →
      u.dma.remaining = s.dma.remaining - 16 ∧ u.sched = s.sched ∧ u.dma.active = s.dma.active ∧
      (s.dma.remaining ≤ 16 → s.hblankDmaStep = { u with dma := { u.dma with active := false, complete := true } }) ∧
      (16 < s.dma.remaining → s.hblankDmaStep = u)))

/-! ## APU -/

/-- The channel registers NR10 to NR51, the triggers and the wave memory. Every register has its address, every write is preceded
by the catch-up, and with the power on what a register reads after a write is the byte written under its mask. A trigger enables
the channel if its DAC is on, reloads a length that has run out, the timer, the envelope and the volume; channel 1's also loads
the sweep and checks it for overflow, channel 3's restarts the pattern, channel 4's the shift register; no other part of the
state changes. Wave memory is read and written with the power on or off (R57, R376, R399, R400, R401, R421, R424, R425). -/
def Obligations.ChannelRegisters : Prop :=
  (∀ (s : State) (v : Byte), s.cfg.Admissible →
    (∀ r : ApuReg, s.busRead r.address = s.apu.readReg r ∧
      s.busWrite r.address v = { s with apu := (s.apu.catchUp s.mems.wave (s.now : Int)).write r v }) ∧
    (∀ i, i < 16 → s.busRead (BitVec.ofNat 16 (0xFF30 + i)) = s.mems.wave.read i ∧
      s.busWrite (BitVec.ofNat 16 (0xFF30 + i)) v =
        { s with
          apu := s.apu.catchUp s.mems.wave (s.now : Int)
          mems := { s.mems with wave := s.mems.wave.write i v } })) ∧
  (∀ (a : Apu) (v : Byte), a.power = true →
    (∀ r : ApuReg, (a.write r v).readReg r = v ||| r.mask) ∧
    a.write .nr10 v = { a with sweep := { a.sweep with nr10 := v.extractLsb' 0 7 } } ∧
    a.write .nr11 v = { a with ch1 := { a.ch1 with duty := v.extractLsb' 6 2, length := 64 - v.toNat % 64 } } ∧
    a.write .nr21 v = { a with ch2 := { a.ch2 with duty := v.extractLsb' 6 2, length := 64 - v.toNat % 64 } } ∧
    a.write .nr12 v = { a with ch1 := { a.ch1 with nr2 := v, enabled := a.ch1.enabled && decide (8 ≤ v.toNat) } } ∧
    a.write .nr22 v = { a with ch2 := { a.ch2 with nr2 := v, enabled := a.ch2.enabled && decide (8 ≤ v.toNat) } } ∧
    a.write .nr42 v = { a with ch4 := { a.ch4 with nr2 := v, enabled := a.ch4.enabled && decide (8 ≤ v.toNat) } } ∧
    a.write .nr13 v = { a with ch1 := { a.ch1 with freq := a.ch1.freq.extractLsb' 8 3 ++ v } } ∧
    a.write .nr23 v = { a with ch2 := { a.ch2 with freq := a.ch2.freq.extractLsb' 8 3 ++ v } } ∧
    a.write .nr33 v = { a with ch3 := { a.ch3 with freq := a.ch3.freq.extractLsb' 8 3 ++ v } } ∧
    a.write .nr30 v = { a with ch3 := { a.ch3 with dac := v.getLsbD 7, enabled := a.ch3.enabled && v.getLsbD 7 } } ∧
    a.write .nr31 v = { a with ch3 := { a.ch3 with length := 256 - v.toNat } } ∧
    a.write .nr32 v = { a with ch3 := { a.ch3 with level := v.extractLsb' 5 2 } } ∧
    a.write .nr41 v = { a with ch4 := { a.ch4 with length := 64 - v.toNat % 64 } } ∧
    a.write .nr43 v = { a with ch4 := { a.ch4 with nr3 := v } } ∧
    a.write .nr50 v = { a with nr50 := v } ∧ a.write .nr51 v = { a with nr51 := v }) ∧
  (∀ (a : Apu) (v : Byte) (c d : Square) (w : Wave) (n : Noise) (interval shift new : Nat), a.power = true →
    c = { a.ch1 with freq := v.extractLsb' 0 3 ++ a.ch1.freq.extractLsb' 0 8, lenEn := v.getLsbD 6 } →
    d = { a.ch2 with freq := v.extractLsb' 0 3 ++ a.ch2.freq.extractLsb' 0 8, lenEn := v.getLsbD 6 } →
    w = { a.ch3 with freq := v.extractLsb' 0 3 ++ a.ch3.freq.extractLsb' 0 8, lenEn := v.getLsbD 6 } →
    n = { a.ch4 with lenEn := v.getLsbD 6 } →
    interval = (a.sweep.nr10.toNat / 16) % 8 → shift = a.sweep.nr10.toNat % 8 →
    new = (if a.sweep.nr10.getLsbD 3 then c.freq.toNat - c.freq.toNat / 2 ^ shift
           else c.freq.toNat + c.freq.toNat / 2 ^ shift) →
    (v.getLsbD 7 = false →
      a.write .nr14 v = { a with ch1 := c } ∧ a.write .nr24 v = { a with ch2 := d } ∧
      a.write .nr34 v = { a with ch3 := w } ∧ a.write .nr44 v = { a with ch4 := n }) ∧
    (v.getLsbD 7 = true →
      a.write .nr14 v =
        { a with
          ch1 := { c with
            enabled := decide (8 ≤ c.nr2.toNat ∧ (shift = 0 ∨ new ≤ 2047))
            length := if c.length = 0 then 64 else c.length
            timer := (2048 - c.freq.toNat) * 4
            envTimer := if c.nr2.toNat % 8 = 0 then 8 else c.nr2.toNat % 8
            volume := c.nr2.extractLsb' 4 4 }
          sweep := { a.sweep with
            shadow := c.freq
            timer := if interval = 0 then 8 else interval
            enabled := decide (interval ≠ 0 ∨ shift ≠ 0) } } ∧
      a.write .nr24 v =
        { a with
          ch2 := { d with
            enabled := decide (8 ≤ d.nr2.toNat)
            length := if d.length = 0 then 64 else d.length
            timer := (2048 - d.freq.toNat) * 4
            envTimer := if d.nr2.toNat % 8 = 0 then 8 else d.nr2.toNat % 8
            volume := d.nr2.extractLsb' 4 4 } } ∧
      a.write .nr34 v =
        { a with
          ch3 := { w with
            enabled := w.dac, length := if w.length = 0 then 256 else w.length
            timer := (2048 - w.freq.toNat) * 2, pos := 0 } } ∧
      a.write .nr44 v =
        { a with
          ch4 := { n with
            enabled := decide (8 ≤ n.nr2.toNat)
            length := if n.length = 0 then 64 else n.length
            timer := (if n.nr3.toNat % 8 = 0 then 8 else 16 * (n.nr3.toNat % 8)) * 2 ^ (n.nr3.toNat / 16)
            envTimer := if n.nr2.toNat % 8 = 0 then 8 else n.nr2.toNat % 8
            volume := n.nr2.extractLsb' 4 4, lfsr := 0x7FFF } }))

/-- Catching the channels up by `n` cycles at once is stepping every channel timer one cycle at a time, `n` times
(R371, R376). -/
def Obligations.CatchUpIsStepping : Prop :=
  ∀ (a : Apu) (wave : Memory) (n : Nat),
    0 < a.ch1.timer → 0 < a.ch2.timer → 0 < a.ch3.timer → 0 < a.ch4.timer →
    a.catchUp wave (a.synced + (n : Int)) = (Apu.tick wave)^[n] a

/-- The frame sequencer: length on even steps, sweep on 2 and 6, envelope on 7, then the next step; nothing while the power is
off; it re-arms itself 8192 cycles after it was due (R380). -/
def Obligations.FrameSequencer : Prop :=
  ∀ (s t : State) (late : Int) (a : Apu), s.sched.staged = 0 → s.isPending .apuFs = false → t = s.fsEvent late →
    a = s.apu.catchUp s.mems.wave ((s.sched.cycle : Int) - late) →
    t.sched.queue = enqueue .apuFs ((s.sched.cycle : Int) - late + 8192) s.sched.queue ∧
    (s.apu.power = false → t.apu = a) ∧
    (s.apu.power = true →
      (a.fsStep = 0 ∨ a.fsStep = 4 → t.apu = { a.clockLength with fsStep := a.fsStep + 1 }) ∧
      (a.fsStep = 2 ∨ a.fsStep = 6 → t.apu = { a.clockLength.clockSweep with fsStep := a.fsStep + 1 }) ∧
      (a.fsStep = 1 ∨ a.fsStep = 3 ∨ a.fsStep = 5 → t.apu = { a with fsStep := a.fsStep + 1 }) ∧
      (a.fsStep = 7 → t.apu = { a.clockEnvelope with fsStep := 0 }))

/-- `ClockLength` on each channel: a counter that is enabled and above 0 loses one, and the channel is disabled when it gets to
0; a counter at 0, or not enabled, changes nothing. `SweepCalc`: the new frequency from the shadow, which with negate set stays
at or below 2047; above 2047 it disables channel 1 and changes nothing else (R381, R384). -/
def Obligations.LengthClockAndSweepCalc : Prop :=
  ∀ (a : Apu) (d : Nat),
    (∀ (lenEn : Bool) (length : Nat) (enabled : Bool), lengthClock lenEn length enabled =
      if lenEn = true ∧ 0 < length then (length - 1, if length = 1 then false else enabled) else (length, enabled)) ∧
    a.clockLength = { a with
      ch1 := { a.ch1 with
        length := (lengthClock a.ch1.lenEn a.ch1.length a.ch1.enabled).1
        enabled := (lengthClock a.ch1.lenEn a.ch1.length a.ch1.enabled).2 }
      ch2 := { a.ch2 with
        length := (lengthClock a.ch2.lenEn a.ch2.length a.ch2.enabled).1
        enabled := (lengthClock a.ch2.lenEn a.ch2.length a.ch2.enabled).2 }
      ch3 := { a.ch3 with
        length := (lengthClock a.ch3.lenEn a.ch3.length a.ch3.enabled).1
        enabled := (lengthClock a.ch3.lenEn a.ch3.length a.ch3.enabled).2 }
      ch4 := { a.ch4 with
        length := (lengthClock a.ch4.lenEn a.ch4.length a.ch4.enabled).1
        enabled := (lengthClock a.ch4.lenEn a.ch4.length a.ch4.enabled).2 } } ∧
    (d = a.sweep.shadow.toNat / 2 ^ (a.sweep.nr10.toNat % 8) →
      (a.sweepNew : Int) = (if a.sweep.nr10.getLsbD 3 then (a.sweep.shadow.toNat : Int) - d else a.sweep.shadow.toNat + d) ∧
      (a.sweep.nr10.getLsbD 3 = true → a.sweepNew ≤ 2047) ∧
      a.sweepCheck = if 2047 < a.sweepNew then { a with ch1 := { a.ch1 with enabled := false } } else a)

/-- The sweep: an interval tick recomputes the shadow frequency, an overflow past 2047 disables channel 1 at once, both in the
first computation and in the second check after the shadow is replaced (R383, R384). -/
def Obligations.SweepTick : Prop :=
  ∀ (a b : Apu) (interval shift new : Nat), interval = (a.sweep.nr10.toNat / 16) % 8 → shift = a.sweep.nr10.toNat % 8 →
    new = (if a.sweep.nr10.getLsbD 3 then a.sweep.shadow.toNat - a.sweep.shadow.toNat / 2 ^ shift
           else a.sweep.shadow.toNat + a.sweep.shadow.toNat / 2 ^ shift) →
    b = a.clockSweep → a.sweep.timer ≤ 1 →
    b.sweep.timer = (if interval = 0 then 8 else interval) ∧
    (a.sweep.enabled = true → interval ≠ 0 → 2047 < new →
      b.ch1.enabled = false ∧ b.sweep.shadow = a.sweep.shadow ∧ b.ch1.freq = a.ch1.freq) ∧
    (a.sweep.enabled = true → interval ≠ 0 → new ≤ 2047 → shift ≠ 0 →
      b.sweep.shadow.toNat = new ∧ b.ch1.freq.toNat = new ∧
      (a.sweep.nr10.getLsbD 3 = false → 2047 < new + new / 2 ^ shift → b.ch1.enabled = false) ∧
      (a.sweep.nr10.getLsbD 3 = true ∨ new + new / 2 ^ shift ≤ 2047 → b.ch1.enabled = a.ch1.enabled))

/-- Power. With the power off every write of NR10 to NR51 but the four length loads is dropped. Powering off clears every stored
register, the enabled flags, volumes, envelope timers and the sweep, and keeps everything else, lengths among it, so that every
register then reads its mask alone; powering on restarts the frame sequencer, the duty steps, the wave position and sample and the
timers; a write of NR52 that does not change the power changes nothing. NR52 at 0xFF26 reads 0x70 with the power and the four
enabled flags. The mixer's components are at most 480 for every state of the channels, and 0 while the power is off (R401, R418,
R422, R423). -/
def Obligations.ApuPower : Prop :=
  (∀ (s : State) (v : Byte), s.cfg.Admissible →
    s.busRead 0xFF26 = s.apu.readNr52 ∧
    s.busWrite 0xFF26 v = { s with apu := (s.apu.catchUp s.mems.wave (s.now : Int)).writeNr52 v }) ∧
  (∀ a : Apu, a.readNr52 = 0x70 ||| (if a.power then 0x80 else 0) ||| (if a.ch4.enabled then 8 else 0) |||
    (if a.ch3.enabled then 4 else 0) ||| (if a.ch2.enabled then 2 else 0) ||| (if a.ch1.enabled then 1 else 0)) ∧
  (∀ (a : Apu) (v : Byte),
    (a.power = false →
      (∀ r : ApuReg, r ≠ .nr11 → r ≠ .nr21 → r ≠ .nr31 → r ≠ .nr41 → a.write r v = a) ∧
      a.write .nr11 v = { a with ch1 := { a.ch1 with length := 64 - v.toNat % 64 } } ∧
      a.write .nr21 v = { a with ch2 := { a.ch2 with length := 64 - v.toNat % 64 } } ∧
      a.write .nr31 v = { a with ch3 := { a.ch3 with length := 256 - v.toNat } } ∧
      a.write .nr41 v = { a with ch4 := { a.ch4 with length := 64 - v.toNat % 64 } }) ∧
    (a.power = true → v.getLsbD 7 = false →
      a.writeNr52 v =
        { a with
          power := false
          ch1 := { a.ch1 with
            enabled := false, lenEn := false, freq := 0, volume := 0, envTimer := 0, duty := 0, nr2 := 0 }
          ch2 := { a.ch2 with
            enabled := false, lenEn := false, freq := 0, volume := 0, envTimer := 0, duty := 0, nr2 := 0 }
          ch3 := { a.ch3 with enabled := false, lenEn := false, freq := 0, dac := false, level := 0 }
          ch4 := { a.ch4 with enabled := false, lenEn := false, volume := 0, envTimer := 0, nr2 := 0, nr3 := 0 }
          sweep := { shadow := 0, timer := 0, enabled := false, nr10 := 0 }, nr50 := 0, nr51 := 0 } ∧
      ∀ r : ApuReg, (a.writeNr52 v).readReg r = r.mask) ∧
    (a.power = false → v.getLsbD 7 = true →
      a.writeNr52 v =
        { a with
          power := true, fsStep := 0
          ch1 := { a.ch1 with dutyStep := 0, timer := (2048 - a.ch1.freq.toNat) * 4 }
          ch2 := { a.ch2 with dutyStep := 0, timer := (2048 - a.ch2.freq.toNat) * 4 }
          ch3 := { a.ch3 with pos := 0, sample := 0, timer := (2048 - a.ch3.freq.toNat) * 2 }
          ch4 := { a.ch4 with
            timer := (if a.ch4.nr3.toNat % 8 = 0 then 8 else 16 * (a.ch4.nr3.toNat % 8)) * 2 ^ (a.ch4.nr3.toNat / 16) } }) ∧
    (a.power = v.getLsbD 7 → a.writeNr52 v = a) ∧
    (a.mix.1 ≤ 480 ∧ a.mix.2 ≤ 480 ∧ (a.power = false → a.mix = (0, 0))))

/-! ## Host calls -/

/-- The host's protocol. `RunFrame` never changes a faulted core and answers its fault; a `RunFrame` that answers `Ok` has let
the frame counter change and left no fault. A key press changes the joypad and may request the Joypad interrupt, the serial
port's own activity changes the serial port and may request the Serial interrupt, and neither does anything else. A save state
restores every item of the state it was made from in any ready core of the same variant, and the whole state in a core with the
same parameters and cartridge; one whose header does not match changes nothing (20_memory.md section 4, 41_cpu_engine.md section
1, 70_reset_and_hazards.md sections 2 and 3). The bound on iterations, the form of a save state, and that the core keeps its own
parameters and its cartridge's ROM image, metadata and kind where they differ from the saved state's, are the model's choices
(log entries 20, 19 and 26), as is where the serial port acts (log entry 8). -/
def Obligations.HostProtocol : Prop :=
  (∀ (s : State) (f : Fault) (fuel : Nat), s.fault = some f → runFrame fuel (.ready s) = (.ready s, .error (.fault f))) ∧
  (∀ (s : State) (x : Session) (fuel : Nat), runFrame fuel (.ready s) = (x, .ok ()) →
    ∃ t, x = .ready t ∧ t.fault = none ∧ t.ppu.frame ≠ s.ppu.frame) ∧
  (∀ (s : State) (button : Nat) (pressed : Bool), s.fault = none →
    (∃ (joypad : Joypad) (request : Bool), setKeyInput (.ready s) button pressed =
      (.ready { s with
        joypad := joypad
        irq := { s.irq with pending := if request then s.irq.pending ||| 16 else s.irq.pending } }, .ok ())) ∧
    (∃ (serial : Serial) (request : Bool), serialActs (.ready s) =
      (.ready { s with
        serial := serial
        irq := { s.irq with pending := if request then s.irq.pending ||| 8 else s.irq.pending } }, .ok ()))) ∧
  (∀ s t : State, t.cfg.model = s.cfg.model →
    ∃ u : State, deserialize (.ready t) s.serialize = (.ready u, .ok ()) ∧ u.cfg = t.cfg ∧
      u.cart = { t.cart with hidden := s.cart.hidden } ∧
      { u with cfg := s.cfg, cart := s.cart, ppu := { u.ppu with fb := s.ppu.fb } } = s ∧
      (∀ x y, x < 160 → y < 144 → u.fbPixel x y = s.fbPixel x y) ∧
      (t.cfg = s.cfg → { t.cart with hidden := s.cart.hidden } = s.cart → s.MemWf → u = s)) ∧
  (∀ (s : State) (b : SaveState),
    b.magic ≠ Config.saveMagic.1 ∨ b.version ≠ Config.saveMagic.2 ∨ b.model ≠ s.cfg.model →
    deserialize (.ready s) b = (.ready s, .error .saveState))

/-! ## Reset and invariants -/

/-- `Reset(true)` of a DMG with the default parameters, the state `State.reset`: the registers the boot ROM leaves, IF = 1, IE = 0,
the display on in Mode 2 of line 0, and the three initial events. The values are the spec's (R513, R514); that `State.reset`
is this one of its reset states, with a blank cartridge, is the model's choice (log entries 3 and 4). -/
def Obligations.ResetValues : Prop :=
  State.reset.cpu =
      { a := 0x01, b := 0x00, c := 0x13, d := 0x00, e := 0xD8, h := 0x01, l := 0x4D, f := ⟨true, false, true, true⟩
        sp := 0xFFFE, pc := 0x0100, ime := false, imePending := false, halted := false, speed := false
        speedArmed := false } ∧
  State.reset.irq = { pending := 1, enable := 0 } ∧ State.reset.fault = none ∧
  State.reset.sched = { cycle := 0, staged := 0, queue := [(.ppu, 80), (.apuSample, 128), (.apuFs, 8192)] } ∧
  State.reset.busRead 0xFF41 = 0x86 ∧ State.reset.busRead 0xFF40 = 0x91 ∧ State.reset.busRead 0xFF47 = 0xFC ∧
  State.reset.busRead 0xFF0F = 0xE1 ∧ State.reset.busRead 0xFF26 = 0xF0 ∧ State.reset.busRead 0xFF04 = 0x00 ∧
  State.reset.busRead 0xFF07 = 0xF8 ∧ State.reset.busRead 0xFF46 = 0xFF

/-- Every state that a reset makes, of either kind and either variant, with admissible parameters and a cartridge whose ROM
image is in canonical form, meets the invariant of the machine; so does `State.reset` (R76, R513, R514). -/
def Obligations.ResetMeetsInvariant : Prop :=
  State.reset.Inv ∧
  ∀ (cfg : Config) (skip : Bool) (cart : Cart) (joypad : Joypad) (serial : Serial), cfg.Admissible →
    Memory.wf cart.romSize cart.rom = true → (State.resetWith cfg skip cart joypad serial).Inv

/-- A step keeps the scheduler's invariant: nothing staged, nothing overdue, the queue in order without repeats, the three
standing events pending, the increment pending iff TAC enables it; and it advances the committed counter (R20, R22, R76 a to d,
R178, R329). -/
def Obligations.StepKeepsScheduler : Prop :=
  ∀ s t : State, s.Inv → step s = .next t → t.SchedInv ∧ s.sched.cycle < t.sched.cycle

/-- A step keeps every memory in canonical form and within its size (R37 to R43). -/
def Obligations.StepKeepsMemories : Prop :=
  ∀ s t : State, s.Inv → step s = .next t → t.MemWf

/-- A step keeps the PPU's invariant: mode, phase and LY agree, LY is at most 153, `stat_prev` is the level of the STAT line, at
most ten sprites are listed (R52, R76 e and f, R333, R339). -/
def Obligations.StepKeepsPpu : Prop :=
  ∀ s t : State, s.Inv → step s = .next t → t.PpuInv

/-- A step keeps the APU's and the VRAM DMA's invariants: timers positive, counters in range; the bytes left are whole blocks, an
active transfer is an incomplete HBlank transfer with a block left (R62 to R66, R76 g, R469). -/
def Obligations.StepKeepsApuAndDma : Prop :=
  ∀ s t : State, s.Inv → step s = .next t → t.ApuInv ∧ t.dma.Inv

/-- No step changes the parameters or anything of the cartridge but what it remembers: the ROM image, the metadata and the kind
stay; and a DMG never gets what only a CGB has (R33, R37, R39, R75, R91, R112, R468). -/
def Obligations.StepKeepsParameters : Prop :=
  ∀ s t : State, step s = .next t → t.cfg = s.cfg ∧ (∃ h, t.cart = { s.cart with hidden := h }) ∧ (s.DmgInv → t.DmgInv)

/-- The only way a machine that meets its invariant stops is an opcode without an entry at PC: the scheduler is never misused,
`Commit` always ends, and nothing is refused (R174, R178, R496, R497). -/
def Obligations.OnlyIllegalOpcodesStop : Prop :=
  ∀ s : State, s.Inv →
    (∃ t, step s = .next t) ∨
    step s = .fault (.undefinedOpcode (s.busRead s.cpu.pc) s.cpu.pc) ∧
      s.busRead s.cpu.pc ∈ ([0xD3, 0xDB, 0xDD, 0xE3, 0xE4, 0xEB, 0xEC, 0xED, 0xF4, 0xFC, 0xFD] : List Byte)
end

