-- ==== Sys2Proof/Laws/Memory.lean ====
section
/-! SUPPORT. The laws of the memories: read after write, every operation keeps the canonical form, equal contents are equal
lists. -/

namespace Sys2Proof.Machine

section

variable {β : Type} [DecidableEq β] {dflt : β}

/-- Reading the key just written gives the value written. -/
theorem sparseGet_sparseSet_self (l : List (Nat × β)) (k : Nat) (v : β) (hi lo : Nat) (h : sparseWf dflt hi lo l = true) :
    sparseGet dflt (sparseSet dflt l k v) k = v := by
  induction l generalizing lo with
  | nil => by_cases hv : v = dflt <;> simp [sparseSet, sparseGet, hv]
  | cons p rest ih =>
    obtain ⟨k', v'⟩ := p
    simp only [sparseWf, Bool.and_eq_true, decide_eq_true_eq] at h
    obtain ⟨⟨⟨h1, h2⟩, h3⟩, h4⟩ := h
    simp only [sparseSet]
    have rise : ∀ r : List (Nat × β), ∀ m, sparseWf dflt hi m r = true → ∀ j, j < m → sparseGet dflt r j = dflt := by
      intro r m hr j hj
      cases r with
      | nil => rfl
      | cons q _ =>
        obtain ⟨kq, vq⟩ := q
        simp only [sparseWf, Bool.and_eq_true, decide_eq_true_eq] at hr
        have : j ≠ kq := by omega
        have : j < kq := by omega
        simp [sparseGet, *]
    by_cases e : k = k'
    · subst e
      by_cases hv : v = dflt
      · simp [hv, rise rest (k + 1) h4 k (by omega)]
      · simp [hv, sparseGet]
    · by_cases lt : k < k'
      · by_cases hv : v = dflt
        · simp [e, lt, hv, sparseGet]
        · simp [e, lt, hv, sparseGet]
      · simp [e, lt, sparseGet, ih (k' + 1) h4]

/-- A key below every listed key reads the unlisted value. -/
theorem sparseGet_below (l : List (Nat × β)) (hi lo k : Nat) (h : sparseWf dflt hi lo l = true) (hk : k < lo) :
    sparseGet dflt l k = dflt := by
  cases l with
  | nil => rfl
  | cons p rest =>
    obtain ⟨k', v'⟩ := p
    simp only [sparseWf, Bool.and_eq_true, decide_eq_true_eq] at h
    have h1 : k ≠ k' := by omega
    have h2 : k < k' := by omega
    simp [sparseGet, h1, h2]

/-- Every other key reads as before. -/
theorem sparseGet_sparseSet_other (l : List (Nat × β)) (k j : Nat) (v : β) (hi lo : Nat) (h : sparseWf dflt hi lo l = true)
    (hj : j ≠ k) : sparseGet dflt (sparseSet dflt l k v) j = sparseGet dflt l j := by
  induction l generalizing lo with
  | nil =>
    by_cases hv : v = dflt
    · simp [sparseSet, hv]
    · by_cases hl : j < k <;> simp [sparseSet, hv, sparseGet, hj, hl]
  | cons p rest ih =>
    obtain ⟨k', v'⟩ := p
    simp only [sparseWf, Bool.and_eq_true, decide_eq_true_eq] at h
    obtain ⟨⟨⟨h1, h2⟩, h3⟩, h4⟩ := h
    simp only [sparseSet]
    by_cases e : k = k'
    · subst e
      by_cases hv : v = dflt
      · by_cases hl : j < k
        · simp [hv, sparseGet, hj, hl, sparseGet_below rest hi (k + 1) j h4 (by omega)]
        · simp [hv, sparseGet, hj, hl]
      · simp [hv, sparseGet, hj]
    · by_cases lt : k < k'
      · by_cases hv : v = dflt
        · simp [e, lt, hv]
        · by_cases hl : j < k
          · have a : j ≠ k' := by omega
            have b : j < k' := by omega
            simp [e, lt, hv, sparseGet, hj, hl, a, b]
          · simp [e, lt, hv, sparseGet, hj, hl]
      · simp [e, lt, sparseGet, ih (k' + 1) h4]

/-- A write keeps the canonical form. -/
theorem sparseSet_wf (l : List (Nat × β)) (k : Nat) (v : β) (hi lo : Nat) (h : sparseWf dflt hi lo l = true) (hlo : lo ≤ k)
    (hk : k < hi) : sparseWf dflt hi lo (sparseSet dflt l k v) = true := by
  induction l generalizing lo with
  | nil => by_cases hv : v = dflt <;> simp [sparseSet, sparseWf, hv, hlo, hk]
  | cons p rest ih =>
    obtain ⟨k', v'⟩ := p
    simp only [sparseWf, Bool.and_eq_true, decide_eq_true_eq] at h
    obtain ⟨⟨⟨h1, h2⟩, h3⟩, h4⟩ := h
    have weaken : ∀ r : List (Nat × β), ∀ m n, n ≤ m → sparseWf dflt hi m r = true → sparseWf dflt hi n r = true := by
      intro r m n hmn hr
      cases r with
      | nil => rfl
      | cons q _ =>
        obtain ⟨kq, vq⟩ := q
        simp only [sparseWf, Bool.and_eq_true, decide_eq_true_eq] at hr ⊢
        obtain ⟨⟨⟨a, b⟩, c⟩, d⟩ := hr
        exact ⟨⟨⟨by omega, b⟩, c⟩, d⟩
    simp only [sparseSet]
    by_cases e : k = k'
    · subst e
      by_cases hv : v = dflt
      · simp [hv, weaken rest (k + 1) lo (by omega) h4]
      · simp [hv, sparseWf, hlo, hk, h4]
    · by_cases lt : k < k'
      · by_cases hv : v = dflt
        · simp [e, lt, hv, sparseWf, h1, h2, h3, h4]
        · have a : k + 1 ≤ k' := by omega
          simp [e, lt, hv, sparseWf, hlo, hk, a, h2, h3, h4]
      · simp [e, lt, sparseWf, h1, h2, h3, ih (k' + 1) h4 (by omega)]

/-- Two memories in canonical form that read alike are the same list. -/
theorem sparse_ext (l m : List (Nat × β)) (hi lo : Nat) (hl : sparseWf dflt hi lo l = true)
    (hm : sparseWf dflt hi lo m = true) (h : ∀ k, sparseGet dflt l k = sparseGet dflt m k) : l = m := by
  induction l generalizing lo m with
  | nil =>
    cases m with
    | nil => rfl
    | cons p rest =>
      obtain ⟨k, v⟩ := p
      simp only [sparseWf, Bool.and_eq_true, decide_eq_true_eq] at hm
      have := h k
      simp only [sparseGet, if_true] at this
      exact absurd this.symm hm.1.2
  | cons p rest ih =>
    obtain ⟨k, v⟩ := p
    simp only [sparseWf, Bool.and_eq_true, decide_eq_true_eq] at hl
    obtain ⟨⟨⟨h1, h2⟩, h3⟩, h4⟩ := hl
    cases m with
    | nil =>
      have := h k
      simp only [sparseGet, if_true] at this
      exact absurd this h3
    | cons q rest' =>
      obtain ⟨k', v'⟩ := q
      simp only [sparseWf, Bool.and_eq_true, decide_eq_true_eq] at hm
      obtain ⟨⟨⟨g1, g2⟩, g3⟩, g4⟩ := hm
      have hk : k = k' := by
        rcases Nat.lt_trichotomy k k' with c | c | c
        · have := h k
          have ne : k ≠ k' := by omega
          simp only [sparseGet, if_true, ne, c, if_false] at this
          exact absurd this h3
        · exact c
        · have := h k'
          have ne : k' ≠ k := by omega
          simp only [sparseGet, if_true, ne, c, if_false] at this
          exact absurd this.symm g3
      subst hk
      have hv : v = v' := by simpa [sparseGet] using h k
      subst hv
      refine congrArg _ (ih rest' (k + 1) h4 g4 fun j => ?_)
      rcases Nat.lt_trichotomy j k with c | c | c
      · rw [sparseGet_below rest hi (k + 1) j h4 (by omega), sparseGet_below rest' hi (k + 1) j g4 (by omega)]
      · subst c
        rw [sparseGet_below rest hi (j + 1) j h4 (by omega), sparseGet_below rest' hi (j + 1) j g4 (by omega)]
      · have := h j
        have a : j ≠ k := by omega
        have b : ¬ j < k := by omega
        simpa [sparseGet, a, b] using this

/-- A key at or above the bound reads the unlisted value. -/
theorem sparseGet_above (l : List (Nat × β)) (hi lo k : Nat) (h : sparseWf dflt hi lo l = true) (hk : hi ≤ k) :
    sparseGet dflt l k = dflt := by
  induction l generalizing lo with
  | nil => rfl
  | cons p rest ih =>
    obtain ⟨k', v⟩ := p
    simp only [sparseWf, Bool.and_eq_true, decide_eq_true_eq] at h
    have a : k ≠ k' := by omega
    have b : ¬ k < k' := by omega
    simp [sparseGet, a, b, ih (k' + 1) h.2]

/-- The list of given values is in canonical form, its keys counted from `k` on. -/
theorem sparseOfList_wf (l : List β) (k hi : Nat) (hk : k + l.length ≤ hi) :
    sparseWf dflt hi k (sparseOfList dflt k l) = true := by
  suffices h : ∀ lo, lo ≤ k → sparseWf dflt hi lo (sparseOfList dflt k l) = true from h k le_rfl
  induction l generalizing k with
  | nil => intro lo _; rfl
  | cons v rest ih =>
    intro lo hlo
    rw [List.length_cons] at hk
    simp only [sparseOfList]
    split
    · exact ih (k + 1) (by omega) lo (by omega)
    · rename_i hv
      simp [sparseWf, hlo, hv, ih (k + 1) (by omega) (k + 1) le_rfl, show k < hi by omega]

/-- The list of given values reads them back. -/
theorem sparseGet_sparseOfList (l : List β) (k i : Nat) :
    sparseGet dflt (sparseOfList dflt k l) (k + i) = l.getD i dflt := by
  induction l generalizing k i with
  | nil => rfl
  | cons v rest ih =>
    have below : sparseGet dflt (sparseOfList dflt (k + 1) rest) k = dflt :=
      sparseGet_below _ (k + 1 + rest.length) (k + 1) k (sparseOfList_wf rest (k + 1) _ le_rfl) (by omega)
    have next : ∀ j, sparseGet dflt (sparseOfList dflt (k + 1) rest) (k + (j + 1)) = rest.getD j dflt := fun j => by
      rw [← ih (k + 1) j]; congr 1; omega
    simp only [sparseOfList]
    cases i with
    | zero =>
      split
      · simp [*]
      · simp [sparseGet]
    | succ j =>
      have a : ¬ k + (j + 1) = k := by omega
      have b : ¬ k + (j + 1) < k := by omega
      split
      · simp [next]
      · simp [sparseGet, next]

end

namespace Memory

/-- Read after write at the same offset. -/
theorem read_write_self {m : Memory} {size : Nat} (h : m.wf size = true) (k : Nat) (v : Byte) : (m.write k v).read k = v :=
  sparseGet_sparseSet_self m k v size 0 h

/-- Read after write at another offset. -/
theorem read_write_other {m : Memory} {size : Nat} (h : m.wf size = true) {k j : Nat} (v : Byte) (hj : j ≠ k) :
    (m.write k v).read j = m.read j :=
  sparseGet_sparseSet_other m k j v size 0 h hj

/-- A write keeps the canonical form. -/
theorem write_wf {m : Memory} {size : Nat} (h : m.wf size = true) {k : Nat} (v : Byte) (hk : k < size) :
    (m.write k v).wf size = true :=
  sparseSet_wf m k v size 0 h (Nat.zero_le k) hk

/-- The empty memory is in canonical form. -/
@[simp] theorem wf_nil (size : Nat) : Memory.wf size [] = true := rfl

/-- Writing any number of offsets below the size keeps the canonical form. -/
theorem foldl_write_wf {α : Type} (l : List α) (key : α → Nat) (val : α → Byte) {size : Nat} :
    ∀ {m : Memory}, m.wf size = true → (∀ x ∈ l, key x < size) →
      (l.foldl (fun m x => m.write (key x) (val x)) m).wf size = true := by
  induction l with
  | nil => intro m h _; exact h
  | cons x l ih =>
    intro m h hk
    exact ih (write_wf h _ (hk x (by simp))) fun y hy => hk y (by simp [hy])

/-- The memory of a list of bytes is in canonical form. -/
theorem ofBytes_wf (bytes : List Byte) : (ofBytes bytes).wf bytes.length = true :=
  sparseOfList_wf bytes 0 bytes.length (by simp)

/-- The memory of a list of bytes reads them back. -/
theorem read_ofBytes (bytes : List Byte) (k : Nat) : (ofBytes bytes).read k = bytes.getD k unlisted := by
  simpa [read, ofBytes] using sparseGet_sparseOfList (dflt := unlisted) bytes 0 k

/-- Memories in canonical form that read alike are equal. -/
theorem ext {m n : Memory} {size : Nat} (hm : m.wf size = true) (hn : n.wf size = true) (h : ∀ k, m.read k = n.read k) :
    m = n :=
  sparse_ext m n size 0 hm hn h

end Memory

end Sys2Proof.Machine
end

