-- ==== Sys2Proof/Laws/State.lean ====
section
/-! SUPPORT. What each update of the state leaves in each field, so that no later proof unfolds a record update. -/

namespace Sys2Proof.Machine

namespace State

@[simp] theorem setCpu_cfg (s : State) (c : Cpu) : (s.setCpu c).cfg = s.cfg := rfl
@[simp] theorem setCpu_sched (s : State) (c : Cpu) : (s.setCpu c).sched = s.sched := rfl
@[simp] theorem setCpu_cpu (s : State) (c : Cpu) : (s.setCpu c).cpu = c := rfl
@[simp] theorem setCpu_irq (s : State) (c : Cpu) : (s.setCpu c).irq = s.irq := rfl
@[simp] theorem setCpu_mems (s : State) (c : Cpu) : (s.setCpu c).mems = s.mems := rfl
@[simp] theorem setCpu_ppu (s : State) (c : Cpu) : (s.setCpu c).ppu = s.ppu := rfl
@[simp] theorem setCpu_apu (s : State) (c : Cpu) : (s.setCpu c).apu = s.apu := rfl
@[simp] theorem setCpu_timer (s : State) (c : Cpu) : (s.setCpu c).timer = s.timer := rfl
@[simp] theorem setCpu_dma (s : State) (c : Cpu) : (s.setCpu c).dma = s.dma := rfl
@[simp] theorem setCpu_cart (s : State) (c : Cpu) : (s.setCpu c).cart = s.cart := rfl
@[simp] theorem setCpu_joypad (s : State) (c : Cpu) : (s.setCpu c).joypad = s.joypad := rfl
@[simp] theorem setCpu_serial (s : State) (c : Cpu) : (s.setCpu c).serial = s.serial := rfl
@[simp] theorem setCpu_sampleOut (s : State) (c : Cpu) : (s.setCpu c).sampleOut = s.sampleOut := rfl
@[simp] theorem setCpu_fault (s : State) (c : Cpu) : (s.setCpu c).fault = s.fault := rfl

@[simp] theorem setPpu_cfg (s : State) (p : Ppu) : (s.setPpu p).cfg = s.cfg := rfl
@[simp] theorem setPpu_sched (s : State) (p : Ppu) : (s.setPpu p).sched = s.sched := rfl
@[simp] theorem setPpu_cpu (s : State) (p : Ppu) : (s.setPpu p).cpu = s.cpu := rfl
@[simp] theorem setPpu_irq (s : State) (p : Ppu) : (s.setPpu p).irq = s.irq := rfl
@[simp] theorem setPpu_mems (s : State) (p : Ppu) : (s.setPpu p).mems = s.mems := rfl
@[simp] theorem setPpu_ppu (s : State) (p : Ppu) : (s.setPpu p).ppu = p := rfl
@[simp] theorem setPpu_apu (s : State) (p : Ppu) : (s.setPpu p).apu = s.apu := rfl
@[simp] theorem setPpu_timer (s : State) (p : Ppu) : (s.setPpu p).timer = s.timer := rfl
@[simp] theorem setPpu_dma (s : State) (p : Ppu) : (s.setPpu p).dma = s.dma := rfl
@[simp] theorem setPpu_cart (s : State) (p : Ppu) : (s.setPpu p).cart = s.cart := rfl
@[simp] theorem setPpu_joypad (s : State) (p : Ppu) : (s.setPpu p).joypad = s.joypad := rfl
@[simp] theorem setPpu_serial (s : State) (p : Ppu) : (s.setPpu p).serial = s.serial := rfl
@[simp] theorem setPpu_sampleOut (s : State) (p : Ppu) : (s.setPpu p).sampleOut = s.sampleOut := rfl
@[simp] theorem setPpu_fault (s : State) (p : Ppu) : (s.setPpu p).fault = s.fault := rfl

@[simp] theorem setTimer_cfg (s : State) (t : Timer) : (s.setTimer t).cfg = s.cfg := rfl
@[simp] theorem setTimer_sched (s : State) (t : Timer) : (s.setTimer t).sched = s.sched := rfl
@[simp] theorem setTimer_cpu (s : State) (t : Timer) : (s.setTimer t).cpu = s.cpu := rfl
@[simp] theorem setTimer_irq (s : State) (t : Timer) : (s.setTimer t).irq = s.irq := rfl
@[simp] theorem setTimer_mems (s : State) (t : Timer) : (s.setTimer t).mems = s.mems := rfl
@[simp] theorem setTimer_ppu (s : State) (t : Timer) : (s.setTimer t).ppu = s.ppu := rfl
@[simp] theorem setTimer_apu (s : State) (t : Timer) : (s.setTimer t).apu = s.apu := rfl
@[simp] theorem setTimer_timer (s : State) (t : Timer) : (s.setTimer t).timer = t := rfl
@[simp] theorem setTimer_dma (s : State) (t : Timer) : (s.setTimer t).dma = s.dma := rfl
@[simp] theorem setTimer_cart (s : State) (t : Timer) : (s.setTimer t).cart = s.cart := rfl
@[simp] theorem setTimer_joypad (s : State) (t : Timer) : (s.setTimer t).joypad = s.joypad := rfl
@[simp] theorem setTimer_serial (s : State) (t : Timer) : (s.setTimer t).serial = s.serial := rfl
@[simp] theorem setTimer_sampleOut (s : State) (t : Timer) : (s.setTimer t).sampleOut = s.sampleOut := rfl
@[simp] theorem setTimer_fault (s : State) (t : Timer) : (s.setTimer t).fault = s.fault := rfl

@[simp] theorem setDma_cfg (s : State) (d : Dma) : (s.setDma d).cfg = s.cfg := rfl
@[simp] theorem setDma_sched (s : State) (d : Dma) : (s.setDma d).sched = s.sched := rfl
@[simp] theorem setDma_cpu (s : State) (d : Dma) : (s.setDma d).cpu = s.cpu := rfl
@[simp] theorem setDma_irq (s : State) (d : Dma) : (s.setDma d).irq = s.irq := rfl
@[simp] theorem setDma_mems (s : State) (d : Dma) : (s.setDma d).mems = s.mems := rfl
@[simp] theorem setDma_ppu (s : State) (d : Dma) : (s.setDma d).ppu = s.ppu := rfl
@[simp] theorem setDma_apu (s : State) (d : Dma) : (s.setDma d).apu = s.apu := rfl
@[simp] theorem setDma_timer (s : State) (d : Dma) : (s.setDma d).timer = s.timer := rfl
@[simp] theorem setDma_dma (s : State) (d : Dma) : (s.setDma d).dma = d := rfl
@[simp] theorem setDma_cart (s : State) (d : Dma) : (s.setDma d).cart = s.cart := rfl
@[simp] theorem setDma_joypad (s : State) (d : Dma) : (s.setDma d).joypad = s.joypad := rfl
@[simp] theorem setDma_serial (s : State) (d : Dma) : (s.setDma d).serial = s.serial := rfl
@[simp] theorem setDma_sampleOut (s : State) (d : Dma) : (s.setDma d).sampleOut = s.sampleOut := rfl
@[simp] theorem setDma_fault (s : State) (d : Dma) : (s.setDma d).fault = s.fault := rfl

@[simp] theorem setMems_cfg (s : State) (m : Mems) : (s.setMems m).cfg = s.cfg := rfl
@[simp] theorem setMems_sched (s : State) (m : Mems) : (s.setMems m).sched = s.sched := rfl
@[simp] theorem setMems_cpu (s : State) (m : Mems) : (s.setMems m).cpu = s.cpu := rfl
@[simp] theorem setMems_irq (s : State) (m : Mems) : (s.setMems m).irq = s.irq := rfl
@[simp] theorem setMems_mems (s : State) (m : Mems) : (s.setMems m).mems = m := rfl
@[simp] theorem setMems_ppu (s : State) (m : Mems) : (s.setMems m).ppu = s.ppu := rfl
@[simp] theorem setMems_apu (s : State) (m : Mems) : (s.setMems m).apu = s.apu := rfl
@[simp] theorem setMems_timer (s : State) (m : Mems) : (s.setMems m).timer = s.timer := rfl
@[simp] theorem setMems_dma (s : State) (m : Mems) : (s.setMems m).dma = s.dma := rfl
@[simp] theorem setMems_cart (s : State) (m : Mems) : (s.setMems m).cart = s.cart := rfl
@[simp] theorem setMems_joypad (s : State) (m : Mems) : (s.setMems m).joypad = s.joypad := rfl
@[simp] theorem setMems_serial (s : State) (m : Mems) : (s.setMems m).serial = s.serial := rfl
@[simp] theorem setMems_sampleOut (s : State) (m : Mems) : (s.setMems m).sampleOut = s.sampleOut := rfl
@[simp] theorem setMems_fault (s : State) (m : Mems) : (s.setMems m).fault = s.fault := rfl

@[simp] theorem setApu_cfg (s : State) (a : Apu) : (s.setApu a).cfg = s.cfg := rfl
@[simp] theorem setApu_sched (s : State) (a : Apu) : (s.setApu a).sched = s.sched := rfl
@[simp] theorem setApu_cpu (s : State) (a : Apu) : (s.setApu a).cpu = s.cpu := rfl
@[simp] theorem setApu_irq (s : State) (a : Apu) : (s.setApu a).irq = s.irq := rfl
@[simp] theorem setApu_mems (s : State) (a : Apu) : (s.setApu a).mems = s.mems := rfl
@[simp] theorem setApu_ppu (s : State) (a : Apu) : (s.setApu a).ppu = s.ppu := rfl
@[simp] theorem setApu_apu (s : State) (a : Apu) : (s.setApu a).apu = a := rfl
@[simp] theorem setApu_timer (s : State) (a : Apu) : (s.setApu a).timer = s.timer := rfl
@[simp] theorem setApu_dma (s : State) (a : Apu) : (s.setApu a).dma = s.dma := rfl
@[simp] theorem setApu_cart (s : State) (a : Apu) : (s.setApu a).cart = s.cart := rfl
@[simp] theorem setApu_joypad (s : State) (a : Apu) : (s.setApu a).joypad = s.joypad := rfl
@[simp] theorem setApu_serial (s : State) (a : Apu) : (s.setApu a).serial = s.serial := rfl
@[simp] theorem setApu_sampleOut (s : State) (a : Apu) : (s.setApu a).sampleOut = s.sampleOut := rfl
@[simp] theorem setApu_fault (s : State) (a : Apu) : (s.setApu a).fault = s.fault := rfl

@[simp] theorem setQueue_cfg (s : State) (q : List (Handle × Int)) : (s.setQueue q).cfg = s.cfg := rfl
@[simp] theorem setQueue_cpu (s : State) (q : List (Handle × Int)) : (s.setQueue q).cpu = s.cpu := rfl
@[simp] theorem setQueue_irq (s : State) (q : List (Handle × Int)) : (s.setQueue q).irq = s.irq := rfl
@[simp] theorem setQueue_mems (s : State) (q : List (Handle × Int)) : (s.setQueue q).mems = s.mems := rfl
@[simp] theorem setQueue_ppu (s : State) (q : List (Handle × Int)) : (s.setQueue q).ppu = s.ppu := rfl
@[simp] theorem setQueue_apu (s : State) (q : List (Handle × Int)) : (s.setQueue q).apu = s.apu := rfl
@[simp] theorem setQueue_timer (s : State) (q : List (Handle × Int)) : (s.setQueue q).timer = s.timer := rfl
@[simp] theorem setQueue_dma (s : State) (q : List (Handle × Int)) : (s.setQueue q).dma = s.dma := rfl
@[simp] theorem setQueue_cart (s : State) (q : List (Handle × Int)) : (s.setQueue q).cart = s.cart := rfl
@[simp] theorem setQueue_joypad (s : State) (q : List (Handle × Int)) : (s.setQueue q).joypad = s.joypad := rfl
@[simp] theorem setQueue_serial (s : State) (q : List (Handle × Int)) : (s.setQueue q).serial = s.serial := rfl
@[simp] theorem setQueue_sampleOut (s : State) (q : List (Handle × Int)) : (s.setQueue q).sampleOut = s.sampleOut := rfl
@[simp] theorem setQueue_fault (s : State) (q : List (Handle × Int)) : (s.setQueue q).fault = s.fault := rfl

@[simp] theorem cancel_cfg (s : State) (h : Handle) : (s.cancel h).cfg = s.cfg := rfl
@[simp] theorem cancel_cpu (s : State) (h : Handle) : (s.cancel h).cpu = s.cpu := rfl
@[simp] theorem cancel_irq (s : State) (h : Handle) : (s.cancel h).irq = s.irq := rfl
@[simp] theorem cancel_mems (s : State) (h : Handle) : (s.cancel h).mems = s.mems := rfl
@[simp] theorem cancel_ppu (s : State) (h : Handle) : (s.cancel h).ppu = s.ppu := rfl
@[simp] theorem cancel_apu (s : State) (h : Handle) : (s.cancel h).apu = s.apu := rfl
@[simp] theorem cancel_timer (s : State) (h : Handle) : (s.cancel h).timer = s.timer := rfl
@[simp] theorem cancel_dma (s : State) (h : Handle) : (s.cancel h).dma = s.dma := rfl
@[simp] theorem cancel_cart (s : State) (h : Handle) : (s.cancel h).cart = s.cart := rfl
@[simp] theorem cancel_joypad (s : State) (h : Handle) : (s.cancel h).joypad = s.joypad := rfl
@[simp] theorem cancel_serial (s : State) (h : Handle) : (s.cancel h).serial = s.serial := rfl
@[simp] theorem cancel_sampleOut (s : State) (h : Handle) : (s.cancel h).sampleOut = s.sampleOut := rfl
@[simp] theorem cancel_fault (s : State) (h : Handle) : (s.cancel h).fault = s.fault := rfl

@[simp] theorem advance_cfg (s : State) (n : Nat) : (s.advance n).cfg = s.cfg := rfl
@[simp] theorem advance_cpu (s : State) (n : Nat) : (s.advance n).cpu = s.cpu := rfl
@[simp] theorem advance_irq (s : State) (n : Nat) : (s.advance n).irq = s.irq := rfl
@[simp] theorem advance_mems (s : State) (n : Nat) : (s.advance n).mems = s.mems := rfl
@[simp] theorem advance_ppu (s : State) (n : Nat) : (s.advance n).ppu = s.ppu := rfl
@[simp] theorem advance_apu (s : State) (n : Nat) : (s.advance n).apu = s.apu := rfl
@[simp] theorem advance_timer (s : State) (n : Nat) : (s.advance n).timer = s.timer := rfl
@[simp] theorem advance_dma (s : State) (n : Nat) : (s.advance n).dma = s.dma := rfl
@[simp] theorem advance_cart (s : State) (n : Nat) : (s.advance n).cart = s.cart := rfl
@[simp] theorem advance_joypad (s : State) (n : Nat) : (s.advance n).joypad = s.joypad := rfl
@[simp] theorem advance_serial (s : State) (n : Nat) : (s.advance n).serial = s.serial := rfl
@[simp] theorem advance_sampleOut (s : State) (n : Nat) : (s.advance n).sampleOut = s.sampleOut := rfl
@[simp] theorem advance_fault (s : State) (n : Nat) : (s.advance n).fault = s.fault := rfl

@[simp] theorem charge_cfg (s : State) (n : Nat) : (s.charge n).cfg = s.cfg := rfl
@[simp] theorem charge_cpu (s : State) (n : Nat) : (s.charge n).cpu = s.cpu := rfl
@[simp] theorem charge_irq (s : State) (n : Nat) : (s.charge n).irq = s.irq := rfl
@[simp] theorem charge_mems (s : State) (n : Nat) : (s.charge n).mems = s.mems := rfl
@[simp] theorem charge_ppu (s : State) (n : Nat) : (s.charge n).ppu = s.ppu := rfl
@[simp] theorem charge_apu (s : State) (n : Nat) : (s.charge n).apu = s.apu := rfl
@[simp] theorem charge_timer (s : State) (n : Nat) : (s.charge n).timer = s.timer := rfl
@[simp] theorem charge_dma (s : State) (n : Nat) : (s.charge n).dma = s.dma := rfl
@[simp] theorem charge_cart (s : State) (n : Nat) : (s.charge n).cart = s.cart := rfl
@[simp] theorem charge_joypad (s : State) (n : Nat) : (s.charge n).joypad = s.joypad := rfl
@[simp] theorem charge_serial (s : State) (n : Nat) : (s.charge n).serial = s.serial := rfl
@[simp] theorem charge_sampleOut (s : State) (n : Nat) : (s.charge n).sampleOut = s.sampleOut := rfl
@[simp] theorem charge_fault (s : State) (n : Nat) : (s.charge n).fault = s.fault := rfl

@[simp] theorem setQueue_cycle (s : State) (q : List (Handle × Int)) : (s.setQueue q).sched.cycle = s.sched.cycle := rfl
@[simp] theorem setQueue_staged (s : State) (q : List (Handle × Int)) : (s.setQueue q).sched.staged = s.sched.staged := rfl
@[simp] theorem setQueue_queue (s : State) (q : List (Handle × Int)) : (s.setQueue q).sched.queue = q := rfl
@[simp] theorem setQueue_now (s : State) (q : List (Handle × Int)) : (s.setQueue q).now = s.now := rfl

@[simp] theorem cancel_cycle (s : State) (h : Handle) : (s.cancel h).sched.cycle = s.sched.cycle := rfl
@[simp] theorem cancel_staged (s : State) (h : Handle) : (s.cancel h).sched.staged = s.sched.staged := rfl
@[simp] theorem cancel_queue (s : State) (h : Handle) : (s.cancel h).sched.queue = dequeue h s.sched.queue := rfl
@[simp] theorem cancel_now (s : State) (h : Handle) : (s.cancel h).now = s.now := rfl

@[simp] theorem advance_cycle (s : State) (n : Nat) : (s.advance n).sched.cycle = s.sched.cycle := rfl
@[simp] theorem advance_staged (s : State) (n : Nat) : (s.advance n).sched.staged = s.sched.staged + n := rfl
@[simp] theorem advance_queue (s : State) (n : Nat) : (s.advance n).sched.queue = s.sched.queue := rfl

@[simp] theorem charge_cycle (s : State) (n : Nat) : (s.charge n).sched.cycle = s.sched.cycle := rfl
@[simp] theorem charge_staged (s : State) (n : Nat) : (s.charge n).sched.staged = s.sched.staged + n * s.mc := rfl
@[simp] theorem charge_queue (s : State) (n : Nat) : (s.charge n).sched.queue = s.sched.queue := rfl

@[simp] theorem setReg_cfg (s : State) (r : Reg8) (v : Byte) : (s.setReg r v).cfg = s.cfg := by cases r <;> rfl
@[simp] theorem setReg_sched (s : State) (r : Reg8) (v : Byte) : (s.setReg r v).sched = s.sched := by cases r <;> rfl
@[simp] theorem setReg_irq (s : State) (r : Reg8) (v : Byte) : (s.setReg r v).irq = s.irq := by cases r <;> rfl
@[simp] theorem setReg_mems (s : State) (r : Reg8) (v : Byte) : (s.setReg r v).mems = s.mems := by cases r <;> rfl
@[simp] theorem setReg_ppu (s : State) (r : Reg8) (v : Byte) : (s.setReg r v).ppu = s.ppu := by cases r <;> rfl
@[simp] theorem setReg_apu (s : State) (r : Reg8) (v : Byte) : (s.setReg r v).apu = s.apu := by cases r <;> rfl
@[simp] theorem setReg_timer (s : State) (r : Reg8) (v : Byte) : (s.setReg r v).timer = s.timer := by cases r <;> rfl
@[simp] theorem setReg_dma (s : State) (r : Reg8) (v : Byte) : (s.setReg r v).dma = s.dma := by cases r <;> rfl
@[simp] theorem setReg_cart (s : State) (r : Reg8) (v : Byte) : (s.setReg r v).cart = s.cart := by cases r <;> rfl
@[simp] theorem setReg_joypad (s : State) (r : Reg8) (v : Byte) : (s.setReg r v).joypad = s.joypad := by cases r <;> rfl
@[simp] theorem setReg_serial (s : State) (r : Reg8) (v : Byte) : (s.setReg r v).serial = s.serial := by cases r <;> rfl
@[simp] theorem setReg_sampleOut (s : State) (r : Reg8) (v : Byte) : (s.setReg r v).sampleOut = s.sampleOut := by cases r <;> rfl
@[simp] theorem setReg_fault (s : State) (r : Reg8) (v : Byte) : (s.setReg r v).fault = s.fault := by cases r <;> rfl

@[simp] theorem setPair_cfg (s : State) (p : Pair) (v : Word) : (s.setPair p v).cfg = s.cfg := by cases p <;> rfl
@[simp] theorem setPair_sched (s : State) (p : Pair) (v : Word) : (s.setPair p v).sched = s.sched := by cases p <;> rfl
@[simp] theorem setPair_irq (s : State) (p : Pair) (v : Word) : (s.setPair p v).irq = s.irq := by cases p <;> rfl
@[simp] theorem setPair_mems (s : State) (p : Pair) (v : Word) : (s.setPair p v).mems = s.mems := by cases p <;> rfl
@[simp] theorem setPair_ppu (s : State) (p : Pair) (v : Word) : (s.setPair p v).ppu = s.ppu := by cases p <;> rfl
@[simp] theorem setPair_apu (s : State) (p : Pair) (v : Word) : (s.setPair p v).apu = s.apu := by cases p <;> rfl
@[simp] theorem setPair_timer (s : State) (p : Pair) (v : Word) : (s.setPair p v).timer = s.timer := by cases p <;> rfl
@[simp] theorem setPair_dma (s : State) (p : Pair) (v : Word) : (s.setPair p v).dma = s.dma := by cases p <;> rfl
@[simp] theorem setPair_cart (s : State) (p : Pair) (v : Word) : (s.setPair p v).cart = s.cart := by cases p <;> rfl
@[simp] theorem setPair_joypad (s : State) (p : Pair) (v : Word) : (s.setPair p v).joypad = s.joypad := by cases p <;> rfl
@[simp] theorem setPair_serial (s : State) (p : Pair) (v : Word) : (s.setPair p v).serial = s.serial := by cases p <;> rfl
@[simp] theorem setPair_sampleOut (s : State) (p : Pair) (v : Word) : (s.setPair p v).sampleOut = s.sampleOut := by cases p <;> rfl
@[simp] theorem setPair_fault (s : State) (p : Pair) (v : Word) : (s.setPair p v).fault = s.fault := by cases p <;> rfl

@[simp] theorem setStackPair_cfg (s : State) (q : StackPair) (v : Word) : (s.setStackPair q v).cfg = s.cfg := by cases q <;> rfl
@[simp] theorem setStackPair_sched (s : State) (q : StackPair) (v : Word) : (s.setStackPair q v).sched = s.sched := by cases q <;> rfl
@[simp] theorem setStackPair_irq (s : State) (q : StackPair) (v : Word) : (s.setStackPair q v).irq = s.irq := by cases q <;> rfl
@[simp] theorem setStackPair_mems (s : State) (q : StackPair) (v : Word) : (s.setStackPair q v).mems = s.mems := by cases q <;> rfl
@[simp] theorem setStackPair_ppu (s : State) (q : StackPair) (v : Word) : (s.setStackPair q v).ppu = s.ppu := by cases q <;> rfl
@[simp] theorem setStackPair_apu (s : State) (q : StackPair) (v : Word) : (s.setStackPair q v).apu = s.apu := by cases q <;> rfl
@[simp] theorem setStackPair_timer (s : State) (q : StackPair) (v : Word) : (s.setStackPair q v).timer = s.timer := by cases q <;> rfl
@[simp] theorem setStackPair_dma (s : State) (q : StackPair) (v : Word) : (s.setStackPair q v).dma = s.dma := by cases q <;> rfl
@[simp] theorem setStackPair_cart (s : State) (q : StackPair) (v : Word) : (s.setStackPair q v).cart = s.cart := by cases q <;> rfl
@[simp] theorem setStackPair_joypad (s : State) (q : StackPair) (v : Word) : (s.setStackPair q v).joypad = s.joypad := by cases q <;> rfl
@[simp] theorem setStackPair_serial (s : State) (q : StackPair) (v : Word) : (s.setStackPair q v).serial = s.serial := by cases q <;> rfl
@[simp] theorem setStackPair_sampleOut (s : State) (q : StackPair) (v : Word) : (s.setStackPair q v).sampleOut = s.sampleOut := by cases q <;> rfl
@[simp] theorem setStackPair_fault (s : State) (q : StackPair) (v : Word) : (s.setStackPair q v).fault = s.fault := by cases q <;> rfl

@[simp] theorem setFlags_cfg (s : State) (f : Flags) : (s.setFlags f).cfg = s.cfg := rfl
@[simp] theorem setFlags_sched (s : State) (f : Flags) : (s.setFlags f).sched = s.sched := rfl
@[simp] theorem setFlags_irq (s : State) (f : Flags) : (s.setFlags f).irq = s.irq := rfl
@[simp] theorem setFlags_mems (s : State) (f : Flags) : (s.setFlags f).mems = s.mems := rfl
@[simp] theorem setFlags_ppu (s : State) (f : Flags) : (s.setFlags f).ppu = s.ppu := rfl
@[simp] theorem setFlags_apu (s : State) (f : Flags) : (s.setFlags f).apu = s.apu := rfl
@[simp] theorem setFlags_timer (s : State) (f : Flags) : (s.setFlags f).timer = s.timer := rfl
@[simp] theorem setFlags_dma (s : State) (f : Flags) : (s.setFlags f).dma = s.dma := rfl
@[simp] theorem setFlags_cart (s : State) (f : Flags) : (s.setFlags f).cart = s.cart := rfl
@[simp] theorem setFlags_joypad (s : State) (f : Flags) : (s.setFlags f).joypad = s.joypad := rfl
@[simp] theorem setFlags_serial (s : State) (f : Flags) : (s.setFlags f).serial = s.serial := rfl
@[simp] theorem setFlags_sampleOut (s : State) (f : Flags) : (s.setFlags f).sampleOut = s.sampleOut := rfl
@[simp] theorem setFlags_fault (s : State) (f : Flags) : (s.setFlags f).fault = s.fault := rfl

@[simp] theorem setSp_cfg (s : State) (v : Word) : (s.setSp v).cfg = s.cfg := rfl
@[simp] theorem setSp_sched (s : State) (v : Word) : (s.setSp v).sched = s.sched := rfl
@[simp] theorem setSp_irq (s : State) (v : Word) : (s.setSp v).irq = s.irq := rfl
@[simp] theorem setSp_mems (s : State) (v : Word) : (s.setSp v).mems = s.mems := rfl
@[simp] theorem setSp_ppu (s : State) (v : Word) : (s.setSp v).ppu = s.ppu := rfl
@[simp] theorem setSp_apu (s : State) (v : Word) : (s.setSp v).apu = s.apu := rfl
@[simp] theorem setSp_timer (s : State) (v : Word) : (s.setSp v).timer = s.timer := rfl
@[simp] theorem setSp_dma (s : State) (v : Word) : (s.setSp v).dma = s.dma := rfl
@[simp] theorem setSp_cart (s : State) (v : Word) : (s.setSp v).cart = s.cart := rfl
@[simp] theorem setSp_joypad (s : State) (v : Word) : (s.setSp v).joypad = s.joypad := rfl
@[simp] theorem setSp_serial (s : State) (v : Word) : (s.setSp v).serial = s.serial := rfl
@[simp] theorem setSp_sampleOut (s : State) (v : Word) : (s.setSp v).sampleOut = s.sampleOut := rfl
@[simp] theorem setSp_fault (s : State) (v : Word) : (s.setSp v).fault = s.fault := rfl

@[simp] theorem setPc_cfg (s : State) (v : Word) : (s.setPc v).cfg = s.cfg := rfl
@[simp] theorem setPc_sched (s : State) (v : Word) : (s.setPc v).sched = s.sched := rfl
@[simp] theorem setPc_irq (s : State) (v : Word) : (s.setPc v).irq = s.irq := rfl
@[simp] theorem setPc_mems (s : State) (v : Word) : (s.setPc v).mems = s.mems := rfl
@[simp] theorem setPc_ppu (s : State) (v : Word) : (s.setPc v).ppu = s.ppu := rfl
@[simp] theorem setPc_apu (s : State) (v : Word) : (s.setPc v).apu = s.apu := rfl
@[simp] theorem setPc_timer (s : State) (v : Word) : (s.setPc v).timer = s.timer := rfl
@[simp] theorem setPc_dma (s : State) (v : Word) : (s.setPc v).dma = s.dma := rfl
@[simp] theorem setPc_cart (s : State) (v : Word) : (s.setPc v).cart = s.cart := rfl
@[simp] theorem setPc_joypad (s : State) (v : Word) : (s.setPc v).joypad = s.joypad := rfl
@[simp] theorem setPc_serial (s : State) (v : Word) : (s.setPc v).serial = s.serial := rfl
@[simp] theorem setPc_sampleOut (s : State) (v : Word) : (s.setPc v).sampleOut = s.sampleOut := rfl
@[simp] theorem setPc_fault (s : State) (v : Word) : (s.setPc v).fault = s.fault := rfl

@[simp] theorem setHl_cfg (s : State) (v : Word) : (s.setHl v).cfg = s.cfg := rfl
@[simp] theorem setHl_sched (s : State) (v : Word) : (s.setHl v).sched = s.sched := rfl
@[simp] theorem setHl_irq (s : State) (v : Word) : (s.setHl v).irq = s.irq := rfl
@[simp] theorem setHl_mems (s : State) (v : Word) : (s.setHl v).mems = s.mems := rfl
@[simp] theorem setHl_ppu (s : State) (v : Word) : (s.setHl v).ppu = s.ppu := rfl
@[simp] theorem setHl_apu (s : State) (v : Word) : (s.setHl v).apu = s.apu := rfl
@[simp] theorem setHl_timer (s : State) (v : Word) : (s.setHl v).timer = s.timer := rfl
@[simp] theorem setHl_dma (s : State) (v : Word) : (s.setHl v).dma = s.dma := rfl
@[simp] theorem setHl_cart (s : State) (v : Word) : (s.setHl v).cart = s.cart := rfl
@[simp] theorem setHl_joypad (s : State) (v : Word) : (s.setHl v).joypad = s.joypad := rfl
@[simp] theorem setHl_serial (s : State) (v : Word) : (s.setHl v).serial = s.serial := rfl
@[simp] theorem setHl_sampleOut (s : State) (v : Word) : (s.setHl v).sampleOut = s.sampleOut := rfl
@[simp] theorem setHl_fault (s : State) (v : Word) : (s.setHl v).fault = s.fault := rfl

@[simp] theorem setIme_cfg (s : State) (b p : Bool) : (s.setIme b p).cfg = s.cfg := rfl
@[simp] theorem setIme_sched (s : State) (b p : Bool) : (s.setIme b p).sched = s.sched := rfl
@[simp] theorem setIme_irq (s : State) (b p : Bool) : (s.setIme b p).irq = s.irq := rfl
@[simp] theorem setIme_mems (s : State) (b p : Bool) : (s.setIme b p).mems = s.mems := rfl
@[simp] theorem setIme_ppu (s : State) (b p : Bool) : (s.setIme b p).ppu = s.ppu := rfl
@[simp] theorem setIme_apu (s : State) (b p : Bool) : (s.setIme b p).apu = s.apu := rfl
@[simp] theorem setIme_timer (s : State) (b p : Bool) : (s.setIme b p).timer = s.timer := rfl
@[simp] theorem setIme_dma (s : State) (b p : Bool) : (s.setIme b p).dma = s.dma := rfl
@[simp] theorem setIme_cart (s : State) (b p : Bool) : (s.setIme b p).cart = s.cart := rfl
@[simp] theorem setIme_joypad (s : State) (b p : Bool) : (s.setIme b p).joypad = s.joypad := rfl
@[simp] theorem setIme_serial (s : State) (b p : Bool) : (s.setIme b p).serial = s.serial := rfl
@[simp] theorem setIme_sampleOut (s : State) (b p : Bool) : (s.setIme b p).sampleOut = s.sampleOut := rfl
@[simp] theorem setIme_fault (s : State) (b p : Bool) : (s.setIme b p).fault = s.fault := rfl

@[simp] theorem requestInterrupt_cfg (s : State) (i : Nat) : (s.requestInterrupt i).cfg = s.cfg := rfl
@[simp] theorem requestInterrupt_sched (s : State) (i : Nat) : (s.requestInterrupt i).sched = s.sched := rfl
@[simp] theorem requestInterrupt_cpu (s : State) (i : Nat) : (s.requestInterrupt i).cpu = s.cpu := rfl
@[simp] theorem requestInterrupt_mems (s : State) (i : Nat) : (s.requestInterrupt i).mems = s.mems := rfl
@[simp] theorem requestInterrupt_ppu (s : State) (i : Nat) : (s.requestInterrupt i).ppu = s.ppu := rfl
@[simp] theorem requestInterrupt_apu (s : State) (i : Nat) : (s.requestInterrupt i).apu = s.apu := rfl
@[simp] theorem requestInterrupt_timer (s : State) (i : Nat) : (s.requestInterrupt i).timer = s.timer := rfl
@[simp] theorem requestInterrupt_dma (s : State) (i : Nat) : (s.requestInterrupt i).dma = s.dma := rfl
@[simp] theorem requestInterrupt_cart (s : State) (i : Nat) : (s.requestInterrupt i).cart = s.cart := rfl
@[simp] theorem requestInterrupt_joypad (s : State) (i : Nat) : (s.requestInterrupt i).joypad = s.joypad := rfl
@[simp] theorem requestInterrupt_serial (s : State) (i : Nat) : (s.requestInterrupt i).serial = s.serial := rfl
@[simp] theorem requestInterrupt_sampleOut (s : State) (i : Nat) : (s.requestInterrupt i).sampleOut = s.sampleOut := rfl
@[simp] theorem requestInterrupt_fault (s : State) (i : Nat) : (s.requestInterrupt i).fault = s.fault := rfl

@[simp] theorem acknowledge_cfg (s : State) (i : Nat) : (s.acknowledge i).cfg = s.cfg := rfl
@[simp] theorem acknowledge_sched (s : State) (i : Nat) : (s.acknowledge i).sched = s.sched := rfl
@[simp] theorem acknowledge_cpu (s : State) (i : Nat) : (s.acknowledge i).cpu = s.cpu := rfl
@[simp] theorem acknowledge_mems (s : State) (i : Nat) : (s.acknowledge i).mems = s.mems := rfl
@[simp] theorem acknowledge_ppu (s : State) (i : Nat) : (s.acknowledge i).ppu = s.ppu := rfl
@[simp] theorem acknowledge_apu (s : State) (i : Nat) : (s.acknowledge i).apu = s.apu := rfl
@[simp] theorem acknowledge_timer (s : State) (i : Nat) : (s.acknowledge i).timer = s.timer := rfl
@[simp] theorem acknowledge_dma (s : State) (i : Nat) : (s.acknowledge i).dma = s.dma := rfl
@[simp] theorem acknowledge_cart (s : State) (i : Nat) : (s.acknowledge i).cart = s.cart := rfl
@[simp] theorem acknowledge_joypad (s : State) (i : Nat) : (s.acknowledge i).joypad = s.joypad := rfl
@[simp] theorem acknowledge_serial (s : State) (i : Nat) : (s.acknowledge i).serial = s.serial := rfl
@[simp] theorem acknowledge_sampleOut (s : State) (i : Nat) : (s.acknowledge i).sampleOut = s.sampleOut := rfl
@[simp] theorem acknowledge_fault (s : State) (i : Nat) : (s.acknowledge i).fault = s.fault := rfl

@[simp] theorem raiseFault_cfg (s : State) (f : Fault) : (s.raiseFault f).cfg = s.cfg := by
  unfold raiseFault; split <;> rfl
@[simp] theorem raiseFault_sched (s : State) (f : Fault) : (s.raiseFault f).sched = s.sched := by
  unfold raiseFault; split <;> rfl
@[simp] theorem raiseFault_cpu (s : State) (f : Fault) : (s.raiseFault f).cpu = s.cpu := by
  unfold raiseFault; split <;> rfl
@[simp] theorem raiseFault_irq (s : State) (f : Fault) : (s.raiseFault f).irq = s.irq := by
  unfold raiseFault; split <;> rfl
@[simp] theorem raiseFault_mems (s : State) (f : Fault) : (s.raiseFault f).mems = s.mems := by
  unfold raiseFault; split <;> rfl
@[simp] theorem raiseFault_ppu (s : State) (f : Fault) : (s.raiseFault f).ppu = s.ppu := by
  unfold raiseFault; split <;> rfl
@[simp] theorem raiseFault_apu (s : State) (f : Fault) : (s.raiseFault f).apu = s.apu := by
  unfold raiseFault; split <;> rfl
@[simp] theorem raiseFault_timer (s : State) (f : Fault) : (s.raiseFault f).timer = s.timer := by
  unfold raiseFault; split <;> rfl
@[simp] theorem raiseFault_dma (s : State) (f : Fault) : (s.raiseFault f).dma = s.dma := by
  unfold raiseFault; split <;> rfl
@[simp] theorem raiseFault_cart (s : State) (f : Fault) : (s.raiseFault f).cart = s.cart := by
  unfold raiseFault; split <;> rfl
@[simp] theorem raiseFault_joypad (s : State) (f : Fault) : (s.raiseFault f).joypad = s.joypad := by
  unfold raiseFault; split <;> rfl
@[simp] theorem raiseFault_serial (s : State) (f : Fault) : (s.raiseFault f).serial = s.serial := by
  unfold raiseFault; split <;> rfl
@[simp] theorem raiseFault_sampleOut (s : State) (f : Fault) : (s.raiseFault f).sampleOut = s.sampleOut := by
  unfold raiseFault; split <;> rfl

@[simp] theorem schedule_cfg (s : State) (h : Handle) (d : Int) : (s.schedule h d).cfg = s.cfg := by
  unfold schedule; split <;> simp
@[simp] theorem schedule_cpu (s : State) (h : Handle) (d : Int) : (s.schedule h d).cpu = s.cpu := by
  unfold schedule; split <;> simp
@[simp] theorem schedule_irq (s : State) (h : Handle) (d : Int) : (s.schedule h d).irq = s.irq := by
  unfold schedule; split <;> simp
@[simp] theorem schedule_mems (s : State) (h : Handle) (d : Int) : (s.schedule h d).mems = s.mems := by
  unfold schedule; split <;> simp
@[simp] theorem schedule_ppu (s : State) (h : Handle) (d : Int) : (s.schedule h d).ppu = s.ppu := by
  unfold schedule; split <;> simp
@[simp] theorem schedule_apu (s : State) (h : Handle) (d : Int) : (s.schedule h d).apu = s.apu := by
  unfold schedule; split <;> simp
@[simp] theorem schedule_timer (s : State) (h : Handle) (d : Int) : (s.schedule h d).timer = s.timer := by
  unfold schedule; split <;> simp
@[simp] theorem schedule_dma (s : State) (h : Handle) (d : Int) : (s.schedule h d).dma = s.dma := by
  unfold schedule; split <;> simp
@[simp] theorem schedule_cart (s : State) (h : Handle) (d : Int) : (s.schedule h d).cart = s.cart := by
  unfold schedule; split <;> simp
@[simp] theorem schedule_joypad (s : State) (h : Handle) (d : Int) : (s.schedule h d).joypad = s.joypad := by
  unfold schedule; split <;> simp
@[simp] theorem schedule_serial (s : State) (h : Handle) (d : Int) : (s.schedule h d).serial = s.serial := by
  unfold schedule; split <;> simp
@[simp] theorem schedule_sampleOut (s : State) (h : Handle) (d : Int) : (s.schedule h d).sampleOut = s.sampleOut := by
  unfold schedule; split <;> simp
@[simp] theorem schedule_cycle (s : State) (h : Handle) (d : Int) : (s.schedule h d).sched.cycle = s.sched.cycle := by
  unfold schedule; split <;> simp
@[simp] theorem schedule_staged (s : State) (h : Handle) (d : Int) : (s.schedule h d).sched.staged = s.sched.staged := by
  unfold schedule; split <;> simp

/-- A fault that is set stays set (R34). -/
theorem raiseFault_of_some {s : State} {f : Fault} (h : s.fault = some f) (g : Fault) : s.raiseFault g = s := by
  unfold raiseFault; rw [h]

/-- Raising a fault in a state without one. -/
theorem raiseFault_of_none {s : State} (h : s.fault = none) (g : Fault) : s.raiseFault g = { s with fault := some g } := by
  unfold raiseFault; rw [h]

/-! Registers: what a write leaves in the register file. -/

@[simp] theorem reg_setReg_self (s : State) (r : Reg8) (v : Byte) : (s.setReg r v).reg r = v := by cases r <;> rfl

theorem reg_setReg_other (s : State) {r r' : Reg8} (v : Byte) (h : r' ≠ r) : (s.setReg r v).reg r' = s.reg r' := by
  cases r <;> cases r' <;> first | rfl | exact absurd rfl h

@[simp] theorem pair_setPair_self (s : State) (p : Pair) (v : Word) : (s.setPair p v).pair p = v := by
  cases p <;> simp [setPair, pair, setHl, hl, setSp, setCpu]

@[simp] theorem hl_setHl (s : State) (v : Word) : (s.setHl v).hl = v := by
  simp [setHl, hl, setCpu]

end State

/-- A flag byte read back gives the flags it was made of (R27). -/
@[simp] theorem Flags.ofByte_toByte (f : Flags) : Flags.ofByte f.toByte = f := by
  obtain ⟨z, n, h, c⟩ := f
  cases z <;> cases n <;> cases h <;> cases c <;> rfl

/-- A flag byte always has a zero low nibble (R27, R76 h). -/
theorem Flags.toByte_low (f : Flags) : f.toByte.extractLsb' 0 4 = 0 := by
  obtain ⟨z, n, h, c⟩ := f
  cases z <;> cases n <;> cases h <;> cases c <;> rfl

end Sys2Proof.Machine
end

