-- ==== Sys2Proof/Laws/Bus.lean ====
section
/-! SUPPORT. The bus: what a read depends on, and what a write never touches. -/

namespace Sys2Proof.Machine

/-- Only offset 0x04 is DIV. -/
theorem IoReg.ofOffset_div {off : Nat} (h : IoReg.ofOffset off = some .div) : off = 4 := by
  unfold IoReg.ofOffset at h
  split at h <;> first | rfl | simp at h

namespace State

/-- The decode of an address depends on the parameters, the bank selects and the boot flag only. -/
theorem region_congr {s t : State} (hc : t.cfg = s.cfg) (hv : t.mems.vbk = s.mems.vbk) (hs : t.mems.svbk = s.mems.svbk)
    (hb : t.mems.bootMapped = s.mems.bootMapped) (a : Word) : t.region a = s.region a := by
  rw [region, region, hc, hv, hs, hb]

/-- An I/O offset that decodes to DIV is 0x04. -/
theorem ioRegion_div {m : Model} {off : Nat} (h : ioRegion m off = .io .div) : off = 4 := by
  unfold ioRegion IoReg.decode at h
  cases hr : IoReg.ofOffset off with
  | none => simp [hr] at h
  | some r =>
    by_cases c : (r.cgbOnly && decide (m = .dmg)) = true
    · simp [hr, c] at h
    · simp only [hr, c, if_false, Region.io.injEq, Bool.false_eq_true] at h
      exact IoReg.ofOffset_div (h ▸ hr)

/-- An address that decodes to DIV is 0xFF04. -/
theorem region_div {s : State} {a : Word} (h : s.region a = .io .div) : a = 0xFF04 := by
  have hlt : a.toNat < 65536 := a.isLt
  unfold region at h
  generalize hn : a.toNat = n at h hlt
  have fin : n = 65284 := by
    unfold regionAt at h
    split at h
    · cases h
    split at h
    · unfold lowRegion at h; split at h <;> (try split at h) <;> cases h
    split at h
    · unfold workRegion at h; split at h <;> cases h
    unfold highRegion at h
    split at h
    · split at h <;> cases h
    split at h
    · have := ioRegion_div h
      omega
    · split at h <;> cases h
  exact BitVec.eq_of_toNat_eq (hn.trans fin)

/-- A read of any address but DIV depends on the devices only: not on time, nor on the CPU but for its speed bits. -/
theorem busRead_congr {s t : State} (hc : t.cfg = s.cfg) (hm : t.mems = s.mems) (hp : t.ppu = s.ppu) (ha : t.apu = s.apu)
    (ht : t.timer = s.timer) (hd : t.dma = s.dma) (hk : t.cart = s.cart) (hj : t.joypad = s.joypad)
    (hs : t.serial = s.serial) (hi : t.irq = s.irq) (h1 : t.cpu.speed = s.cpu.speed)
    (h2 : t.cpu.speedArmed = s.cpu.speedArmed) {a : Word} (hne : a ≠ 0xFF04) : t.busRead a = s.busRead a := by
  have hr : t.region a = s.region a := region_congr hc (by rw [hm]) (by rw [hm]) (by rw [hm]) a
  have hblk : t.cpuBlocked = s.cpuBlocked := by simp [cpuBlocked, hp]
  unfold busRead
  rw [hr, hblk]
  cases hreg : s.region a with
  | io r =>
    have hdiv : r ≠ .div := fun e => hne (region_div (s := s) (by rw [hreg, e]))
    cases r <;> first
      | exact absurd rfl hdiv
      | simp [regionRead, ioRead, readTac, readIf, readKey1, hm, hp, ha, ht, hd, hj, hs, hi, h1, h2]
  | _ => simp [regionRead, readIe, hc, hm, hk, hi]

/-- Charging cycles changes no read but that of DIV. -/
theorem busRead_charge (s : State) (n : Nat) {a : Word} (hne : a ≠ 0xFF04) : (s.charge n).busRead a = s.busRead a :=
  busRead_congr (s := s) (t := s.charge n) rfl rfl rfl rfl rfl rfl rfl rfl rfl rfl rfl rfl hne

/-! What a write never touches. -/

/-- Replacing one field after another keeps a property that each replacement keeps; used for the frames below. -/
theorem vdmaCopyBytes_keeps {α : Type} (f : State → α) (h : ∀ s, f (vdmaCopyByte s) = f s) :
    ∀ n s, f (vdmaCopyBytes n s) = f s := by
  intro n
  induction n with
  | zero => intro s; rfl
  | succ n ih => intro s; exact (ih _).trans (h s)

@[simp] theorem gdma_cfg (s : State) : s.gdma.cfg = s.cfg := by
  simp [gdma, vdmaCopyBytes_keeps (fun s => s.cfg) (fun _ => rfl)]
@[simp] theorem gdma_cpu (s : State) : s.gdma.cpu = s.cpu := by
  simp [gdma, vdmaCopyBytes_keeps (fun s => s.cpu) (fun _ => rfl)]
@[simp] theorem gdma_irq (s : State) : s.gdma.irq = s.irq := by
  simp [gdma, vdmaCopyBytes_keeps (fun s => s.irq) (fun _ => rfl)]
@[simp] theorem gdma_ppu (s : State) : s.gdma.ppu = s.ppu := by
  simp [gdma, vdmaCopyBytes_keeps (fun s => s.ppu) (fun _ => rfl)]
@[simp] theorem gdma_apu (s : State) : s.gdma.apu = s.apu := by
  simp [gdma, vdmaCopyBytes_keeps (fun s => s.apu) (fun _ => rfl)]
@[simp] theorem gdma_timer (s : State) : s.gdma.timer = s.timer := by
  simp [gdma, vdmaCopyBytes_keeps (fun s => s.timer) (fun _ => rfl)]
@[simp] theorem gdma_cart (s : State) : s.gdma.cart = s.cart := by
  simp [gdma, vdmaCopyBytes_keeps (fun s => s.cart) (fun _ => rfl)]
@[simp] theorem gdma_fault (s : State) : s.gdma.fault = s.fault := by
  simp [gdma, vdmaCopyBytes_keeps (fun s => s.fault) (fun _ => rfl)]
@[simp] theorem gdma_sampleOut (s : State) : s.gdma.sampleOut = s.sampleOut := by
  simp [gdma, vdmaCopyBytes_keeps (fun s => s.sampleOut) (fun _ => rfl)]
@[simp] theorem gdma_cycle (s : State) : s.gdma.sched.cycle = s.sched.cycle := by
  simp [gdma, vdmaCopyBytes_keeps (fun s => s.sched) (fun _ => rfl)]
@[simp] theorem gdma_queue (s : State) : s.gdma.sched.queue = s.sched.queue := by
  simp [gdma, vdmaCopyBytes_keeps (fun s => s.sched) (fun _ => rfl)]

/-- All that `StatUpdate` can do: set `stat_prev`, and perhaps request the STAT interrupt (R333). -/
theorem statUpdate_cases (s : State) :
    ∃ b, s.statUpdate = s.setPpu { s.ppu with statPrev := b } ∨
      s.statUpdate = (s.setPpu { s.ppu with statPrev := b }).requestInterrupt 1 := by
  unfold statUpdate
  by_cases h : s.ppu.on = true
  · by_cases e : (s.ppu.statLevel && !s.ppu.statPrev) = true
    · exact ⟨s.ppu.statLevel, .inr (by simp only [h, e, if_true])⟩
    · exact ⟨s.ppu.statLevel, .inl (by simp only [h, e, if_true, if_false, Bool.false_eq_true])⟩
  · exact ⟨false, .inl (by simp only [h, if_false, Bool.false_eq_true])⟩

@[simp] theorem statUpdate_cfg (s : State) : s.statUpdate.cfg = s.cfg := by
  obtain ⟨b, h | h⟩ := statUpdate_cases s <;> rw [h] <;> rfl
@[simp] theorem statUpdate_sched (s : State) : s.statUpdate.sched = s.sched := by
  obtain ⟨b, h | h⟩ := statUpdate_cases s <;> rw [h] <;> rfl
@[simp] theorem statUpdate_cpu (s : State) : s.statUpdate.cpu = s.cpu := by
  obtain ⟨b, h | h⟩ := statUpdate_cases s <;> rw [h] <;> rfl
@[simp] theorem statUpdate_mems (s : State) : s.statUpdate.mems = s.mems := by
  obtain ⟨b, h | h⟩ := statUpdate_cases s <;> rw [h] <;> rfl
@[simp] theorem statUpdate_apu (s : State) : s.statUpdate.apu = s.apu := by
  obtain ⟨b, h | h⟩ := statUpdate_cases s <;> rw [h] <;> rfl
@[simp] theorem statUpdate_timer (s : State) : s.statUpdate.timer = s.timer := by
  obtain ⟨b, h | h⟩ := statUpdate_cases s <;> rw [h] <;> rfl
@[simp] theorem statUpdate_dma (s : State) : s.statUpdate.dma = s.dma := by
  obtain ⟨b, h | h⟩ := statUpdate_cases s <;> rw [h] <;> rfl
@[simp] theorem statUpdate_cart (s : State) : s.statUpdate.cart = s.cart := by
  obtain ⟨b, h | h⟩ := statUpdate_cases s <;> rw [h] <;> rfl
@[simp] theorem statUpdate_joypad (s : State) : s.statUpdate.joypad = s.joypad := by
  obtain ⟨b, h | h⟩ := statUpdate_cases s <;> rw [h] <;> rfl
@[simp] theorem statUpdate_serial (s : State) : s.statUpdate.serial = s.serial := by
  obtain ⟨b, h | h⟩ := statUpdate_cases s <;> rw [h] <;> rfl
@[simp] theorem statUpdate_sampleOut (s : State) : s.statUpdate.sampleOut = s.sampleOut := by
  obtain ⟨b, h | h⟩ := statUpdate_cases s <;> rw [h] <;> rfl
@[simp] theorem statUpdate_fault (s : State) : s.statUpdate.fault = s.fault := by
  obtain ⟨b, h | h⟩ := statUpdate_cases s <;> rw [h] <;> rfl

/-- A write of LCDC leaves the parameters, the CPU and the audio stream alone. -/
theorem writeLcdc_frame (s : State) (v : Byte) :
    (s.writeLcdc v).cfg = s.cfg ∧ (s.writeLcdc v).cpu = s.cpu ∧ (s.writeLcdc v).sampleOut = s.sampleOut ∧
    (s.writeLcdc v).sched.cycle = s.sched.cycle := by
  unfold writeLcdc
  cases s.ppu.on <;> cases v.getLsbD 7 <;> simp [displayOff, displayOn]

/-- A write of HDMA5 leaves the parameters, the CPU and the audio stream alone. -/
theorem writeHdma5_frame (s : State) (v : Byte) :
    (s.writeHdma5 v).cfg = s.cfg ∧ (s.writeHdma5 v).cpu = s.cpu ∧ (s.writeHdma5 v).sampleOut = s.sampleOut ∧
    (s.writeHdma5 v).sched.cycle = s.sched.cycle := by
  unfold writeHdma5
  simp only
  split
  · simp
  · split <;> simp

/-- What no write to an I/O register touches: the parameters, the committed counter, the audio stream, and of the CPU all but
the speed-switch request. -/
theorem ioWrite_frame (s : State) (r : IoReg) (v : Byte) :
    (s.ioWrite r v).cfg = s.cfg ∧ (∃ b, (s.ioWrite r v).cpu = { s.cpu with speedArmed := b }) ∧
    (s.ioWrite r v).sampleOut = s.sampleOut ∧ (s.ioWrite r v).sched.cycle = s.sched.cycle := by
  have same : ∀ t : State, t.cpu = s.cpu → ∃ b, t.cpu = { s.cpu with speedArmed := b } :=
    fun t h => ⟨s.cpu.speedArmed, h⟩
  cases r with
  | lcdc => exact ⟨(writeLcdc_frame s v).1, same _ (writeLcdc_frame s v).2.1, (writeLcdc_frame s v).2.2⟩
  | hdma5 => exact ⟨(writeHdma5_frame s v).1, same _ (writeHdma5_frame s v).2.1, (writeHdma5_frame s v).2.2⟩
  | key1 => exact ⟨rfl, ⟨_, rfl⟩, rfl, rfl⟩
  | div =>
    refine ⟨?_, same _ ?_, ?_, ?_⟩ <;> simp only [ioWrite, writeDiv] <;> split <;> simp
  | tac =>
    refine ⟨?_, same _ ?_, ?_, ?_⟩ <;> simp only [ioWrite, writeTac] <;> split <;> simp
  | bootOff =>
    refine ⟨?_, same _ ?_, ?_, ?_⟩ <;> simp only [ioWrite, writeBootOff] <;> split <;> simp
  | _ =>
    refine ⟨?_, same _ ?_, ?_, ?_⟩ <;>
      simp [ioWrite, joypadWrite, serialWrite, writeIf, apuWrite, writeNr52, writeWave, writeStat, writeLyc, writeDma,
        writeBcpd, writeOcpd]

/-- What no CPU write touches. -/
theorem busWrite_frame (s : State) (a : Word) (v : Byte) :
    (s.busWrite a v).cfg = s.cfg ∧ (∃ b, (s.busWrite a v).cpu = { s.cpu with speedArmed := b }) ∧
    (s.busWrite a v).sampleOut = s.sampleOut ∧ (s.busWrite a v).sched.cycle = s.sched.cycle := by
  have same : ∀ t : State, t.cpu = s.cpu → ∃ b, t.cpu = { s.cpu with speedArmed := b } :=
    fun t h => ⟨s.cpu.speedArmed, h⟩
  unfold busWrite
  cases s.region a with
  | io r => exact ioWrite_frame s r v
  | cart k =>
    simp only [cartWrite]
    split <;> exact ⟨rfl, same _ rfl, rfl, rfl⟩
  | vram k => simp only; split <;> exact ⟨rfl, same _ rfl, rfl, rfl⟩
  | oam k => simp only; split <;> exact ⟨rfl, same _ rfl, rfl, rfl⟩
  | _ => exact ⟨rfl, same _ rfl, rfl, rfl⟩

/-- No write to an I/O register touches the cartridge. -/
@[simp] theorem ioWrite_cart (s : State) (r : IoReg) (v : Byte) : (s.ioWrite r v).cart = s.cart := by
  cases r with
  | lcdc => simp only [ioWrite, writeLcdc]; cases s.ppu.on <;> cases v.getLsbD 7 <;> simp [displayOff, displayOn]
  | hdma5 => simp only [ioWrite, writeHdma5]; split <;> (try split) <;> simp
  | div => simp only [ioWrite, writeDiv]; split <;> simp
  | tac => simp only [ioWrite, writeTac]; split <;> simp
  | bootOff => simp only [ioWrite, writeBootOff]; split <;> simp
  | _ =>
    simp [ioWrite, joypadWrite, serialWrite, writeIf, writeKey1, apuWrite, writeNr52, writeWave, writeStat, writeLyc, writeDma,
      writeBcpd, writeOcpd]

/-- A write changes nothing of the cartridge but what it remembers: its ROM image, metadata and kind are fixed (R75, R112). -/
theorem busWrite_cart (s : State) (a : Word) (v : Byte) : ∃ h, (s.busWrite a v).cart = { s.cart with hidden := h } := by
  have same : ∀ t : State, t.cart = s.cart → ∃ h, t.cart = { s.cart with hidden := h } := fun t h => ⟨s.cart.hidden, h⟩
  unfold busWrite
  cases s.region a with
  | cart k =>
    simp only [cartWrite]
    split
    · exact same _ rfl
    · exact ⟨_, rfl⟩
  | io r => exact same _ (ioWrite_cart s r v)
  | vram k => simp only; split <;> exact same _ rfl
  | oam k => simp only; split <;> exact same _ rfl
  | _ => exact same _ rfl

@[simp] theorem busWrite_cfg (s : State) (a : Word) (v : Byte) : (s.busWrite a v).cfg = s.cfg := (busWrite_frame s a v).1
@[simp] theorem busWrite_sampleOut (s : State) (a : Word) (v : Byte) : (s.busWrite a v).sampleOut = s.sampleOut :=
  (busWrite_frame s a v).2.2.1
@[simp] theorem busWrite_cycle (s : State) (a : Word) (v : Byte) : (s.busWrite a v).sched.cycle = s.sched.cycle :=
  (busWrite_frame s a v).2.2.2

/-- No write changes SP. -/
@[simp] theorem busWrite_sp (s : State) (a : Word) (v : Byte) : (s.busWrite a v).cpu.sp = s.cpu.sp := by
  obtain ⟨b, h⟩ := (busWrite_frame s a v).2.1
  rw [h]

/-- No write changes PC. -/
@[simp] theorem busWrite_pc (s : State) (a : Word) (v : Byte) : (s.busWrite a v).cpu.pc = s.cpu.pc := by
  obtain ⟨b, h⟩ := (busWrite_frame s a v).2.1
  rw [h]

/-- No write changes the interrupt enable or its delay. -/
@[simp] theorem busWrite_ime (s : State) (a : Word) (v : Byte) :
    (s.busWrite a v).cpu.ime = s.cpu.ime ∧ (s.busWrite a v).cpu.imePending = s.cpu.imePending := by
  obtain ⟨b, h⟩ := (busWrite_frame s a v).2.1
  rw [h]; exact ⟨rfl, rfl⟩

/-- A push is two writes below SP, SP two lower: all it does (R11, R232). -/
theorem push16_eq (s : State) (v : Word) :
    s.push16 v = ((((s.setSp (s.cpu.sp - 1)).busWrite (s.cpu.sp - 1) v.hi).setSp (s.cpu.sp - 1 - 1)).busWrite
      (s.cpu.sp - 1 - 1) v.lo) := by
  simp [push16, setSp, setCpu, busWrite_sp]

/-- No boot image reaches the addresses above the two that R88 names. -/
theorem bootCovers_above {s : State} (h : s.cfg.Admissible) {a : Nat} (ha : 2304 ≤ a) :
    bootCovers s.cfg.bootRom s.mems.bootMapped a = false := by
  have hl := h.2.2.2
  unfold bootCovers
  cases hr : s.cfg.bootRom with
  | none => rfl
  | some rom =>
    simp only [hr, Option.getD_some] at hl
    simp only [Bool.and_eq_false_iff, decide_eq_false_iff_not]
    exact .inl (.inr (by omega))

/-- The address of an I/O register decodes to it (R87, R92). -/
theorem region_io {s : State} (h : s.cfg.Admissible) {off : Nat} {r : IoReg} (ho : off < 128)
    (hd : IoReg.decode s.cfg.model off = some r) : s.region (BitVec.ofNat 16 (0xFF00 + off)) = .io r := by
  have e : (BitVec.ofNat 16 (0xFF00 + off)).toNat = 0xFF00 + off := by
    rw [BitVec.toNat_ofNat]
    omega
  have a1 : ¬ (0xFF00 + off) / 4096 < 0xC := by omega
  have a2 : ¬ (0xFF00 + off) / 256 < 0xFE := by omega
  have a3 : ¬ (0xFF00 + off) / 256 < 0xFF := by omega
  have a4 : (0xFF00 + off) % 256 = off := by omega
  simp only [region, e, regionAt, bootCovers_above h (show 2304 ≤ 0xFF00 + off by omega), a1, a2, highRegion, a3, a4, ioRegion,
    hd, if_true, if_false, Bool.false_eq_true, ho]

/-- A read and a write of an I/O register at its address (R84, R85). -/
theorem busRead_io {s : State} (h : s.cfg.Admissible) {off : Nat} {r : IoReg} (ho : off < 128)
    (hd : IoReg.decode s.cfg.model off = some r) : s.busRead (BitVec.ofNat 16 (0xFF00 + off)) = s.ioRead r := by
  simp only [busRead, regionRead, region_io h ho hd]

theorem busWrite_io {s : State} (h : s.cfg.Admissible) {off : Nat} {r : IoReg} (ho : off < 128)
    (hd : IoReg.decode s.cfg.model off = some r) (v : Byte) :
    s.busWrite (BitVec.ofNat 16 (0xFF00 + off)) v = s.ioWrite r v := by
  simp only [busWrite, region_io h ho hd]

end State

end Sys2Proof.Machine
end

