-- ==== Sys2Proof/Laws/Queue.lean ====
section
/-! SUPPORT. The laws of the due-ordered queue (R173, R175): what an insertion and a removal leave pending, and that both keep
the order and the distinctness of handles. -/

namespace Sys2Proof.Machine

/-- An inserted entry joins the entries that were there. -/
theorem mem_enqueue {α : Type} (h : α) (d : Int) (q : List (α × Int)) (p : α × Int) :
    p ∈ enqueue h d q ↔ p = (h, d) ∨ p ∈ q := by
  induction q with
  | nil => simp [enqueue]
  | cons x rest ih =>
    obtain ⟨h', t⟩ := x
    by_cases c : t ≤ d
    · simp only [enqueue, c, if_true, List.mem_cons, ih]
      tauto
    · simp only [enqueue, c, if_false, List.mem_cons]

/-- What is pending after an insertion. -/
@[simp] theorem isQueued_enqueue (h k : Handle) (d : Int) (q : List (Handle × Int)) :
    isQueued k (enqueue h d q) = (decide (h = k) || isQueued k q) := by
  rw [Bool.eq_iff_iff]
  simp only [isQueued, List.any_eq_true, decide_eq_true_eq, Bool.or_eq_true, mem_enqueue]
  constructor
  · rintro ⟨p, rfl | hp, rfl⟩
    · exact .inl rfl
    · exact .inr ⟨p, hp, rfl⟩
  · rintro (rfl | ⟨p, hp, rfl⟩)
    · exact ⟨(h, d), .inl rfl, rfl⟩
    · exact ⟨p, .inr hp, rfl⟩

/-- What is pending after a removal. -/
@[simp] theorem isQueued_dequeue (h k : Handle) (q : List (Handle × Int)) :
    isQueued k (dequeue h q) = (decide (k ≠ h) && isQueued k q) := by
  rw [Bool.eq_iff_iff]
  simp only [isQueued, dequeue, List.any_eq_true, decide_eq_true_eq, Bool.and_eq_true, List.mem_filter]
  constructor
  · rintro ⟨p, ⟨hp, hne⟩, rfl⟩
    exact ⟨hne, p, hp, rfl⟩
  · rintro ⟨hne, p, hp, rfl⟩
    exact ⟨p, ⟨hp, hne⟩, rfl⟩

/-- An entry that is still there after a removal was there before. -/
theorem mem_dequeue {h : Handle} {q : List (Handle × Int)} {p : Handle × Int} (hp : p ∈ dequeue h q) : p ∈ q :=
  (List.mem_filter.1 hp).1

/-- An insertion keeps the order (R173). -/
theorem dueAscending_enqueue (h : Handle) (d : Int) (q : List (Handle × Int)) (hq : dueAscending q = true) :
    dueAscending (enqueue h d q) = true := by
  induction q with
  | nil => rfl
  | cons x rest ih =>
    obtain ⟨h', t⟩ := x
    simp only [dueAscending, Bool.and_eq_true, List.all_eq_true, decide_eq_true_eq] at hq
    by_cases c : t ≤ d
    · simp only [enqueue, c, if_true, dueAscending, Bool.and_eq_true, List.all_eq_true, decide_eq_true_eq]
      refine ⟨fun p hp => ?_, ih hq.2⟩
      rcases (mem_enqueue h d rest p).1 hp with rfl | hr
      · exact c
      · exact hq.1 p hr
    · simp only [enqueue, c, if_false, dueAscending, Bool.and_eq_true, List.all_eq_true, decide_eq_true_eq]
      refine ⟨fun p hp => ?_, hq⟩
      rcases List.mem_cons.1 hp with rfl | hr
      · exact le_of_lt (not_le.1 c)
      · exact le_trans (le_of_lt (not_le.1 c)) (hq.1 p hr)

/-- A removal keeps the order (R175). -/
theorem dueAscending_dequeue (h : Handle) (q : List (Handle × Int)) (hq : dueAscending q = true) :
    dueAscending (dequeue h q) = true := by
  induction q with
  | nil => rfl
  | cons x rest ih =>
    obtain ⟨h', t⟩ := x
    simp only [dueAscending, Bool.and_eq_true, List.all_eq_true, decide_eq_true_eq] at hq
    by_cases c : h' = h
    · simpa [dequeue, c] using ih hq.2
    · have e : dequeue h ((h', t) :: rest) = (h', t) :: dequeue h rest := by simp [dequeue, c]
      rw [e]
      simp only [dueAscending, Bool.and_eq_true, List.all_eq_true, decide_eq_true_eq]
      exact ⟨fun p hp => hq.1 p (mem_dequeue hp), ih hq.2⟩

/-- Inserting a handle that is not pending keeps handles distinct (R174). -/
theorem handlesDistinct_enqueue (h : Handle) (d : Int) (q : List (Handle × Int)) (hn : isQueued h q = false)
    (hq : handlesDistinct q = true) : handlesDistinct (enqueue h d q) = true := by
  induction q with
  | nil => rfl
  | cons x rest ih =>
    obtain ⟨h', t⟩ := x
    simp only [handlesDistinct, Bool.and_eq_true, Bool.not_eq_true'] at hq
    have hn' : h' ≠ h ∧ isQueued h rest = false := by simpa [isQueued] using hn
    by_cases c : t ≤ d
    · simp only [enqueue, c, if_true, handlesDistinct, Bool.and_eq_true, Bool.not_eq_true', isQueued_enqueue,
        Bool.or_eq_false_iff, decide_eq_false_iff_not]
      exact ⟨⟨fun e => hn'.1 e.symm, hq.1⟩, ih hn'.2 hq.2⟩
    · simp only [enqueue, c, if_false, handlesDistinct, Bool.and_eq_true, Bool.not_eq_true']
      exact ⟨hn, hq⟩

/-- A removal keeps handles distinct. -/
theorem handlesDistinct_dequeue (h : Handle) (q : List (Handle × Int)) (hq : handlesDistinct q = true) :
    handlesDistinct (dequeue h q) = true := by
  induction q with
  | nil => rfl
  | cons x rest ih =>
    obtain ⟨h', t⟩ := x
    simp only [handlesDistinct, Bool.and_eq_true, Bool.not_eq_true'] at hq
    by_cases c : h' = h
    · simpa [dequeue, c] using ih hq.2
    · have e : dequeue h ((h', t) :: rest) = (h', t) :: dequeue h rest := by simp [dequeue, c]
      rw [e]
      simp only [handlesDistinct, Bool.and_eq_true, Bool.not_eq_true', isQueued_dequeue]
      exact ⟨by simp [hq.1], ih hq.2⟩

/-- A handle that is not pending is not changed by removing it: `Cancel` of an idle handle is no operation (R175). -/
theorem dequeue_of_not_queued (h : Handle) (q : List (Handle × Int)) (hn : isQueued h q = false) : dequeue h q = q := by
  unfold dequeue
  refine List.filter_eq_self.2 fun p hp => ?_
  simp only [isQueued, List.any_eq_false, decide_eq_true_eq] at hn
  simpa using hn p hp

namespace State

/-- All that `Schedule` of an idle handle does (R173). -/
theorem schedule_idle {s : State} {h : Handle} (hn : s.isPending h = false) (d : Int) :
    s.schedule h d = s.setQueue (enqueue h ((s.now : Int) + d) s.sched.queue) := by
  simp [schedule, hn]

/-- `Schedule` of a pending handle raises the fault and leaves the queue as it was (R174). -/
theorem schedule_pending {s : State} {h : Handle} (hp : s.isPending h = true) (d : Int) :
    s.schedule h d = s.raiseFault (.schedulerMisuse (some h)) := by
  simp [schedule, hp]

/-- After `Cancel` the handle is idle (R171, R175). -/
@[simp] theorem isPending_cancel (s : State) (h k : Handle) :
    (s.cancel h).isPending k = (decide (k ≠ h) && s.isPending k) := by
  simp [isPending, cancel, setQueue]

/-- `Schedule` after `Cancel` of the same handle replaces its entry (R173, R175). -/
theorem schedule_cancel (s : State) (h : Handle) (d : Int) :
    (s.cancel h).schedule h d =
      { s with sched := { s.sched with queue := enqueue h ((s.now : Int) + d) (dequeue h s.sched.queue) } } := by
  rw [schedule_idle (by simp)]
  rfl

end State

end Sys2Proof.Machine
end

