-- ==== Sys2Proof/Laws/Events.lean ====
section
/-! SUPPORT. What the event callbacks touch, and the induction over the loop of `Commit`: what every callback keeps, `Commit`
keeps. -/

namespace Sys2Proof.Machine

namespace State

/-- Rendering a line replaces the PPU, and of it the framebuffer and the window's line counter. -/
theorem renderLine_eq (s : State) (ly : Nat) :
    s.renderLine ly = s.setPpu { s.ppu with
      fb := s.drawLine ly, windowLine := if s.windowOnLine ly then s.ppu.windowLine + 1 else s.ppu.windowLine } := rfl

/-- An HBlank step keeps what copying a byte and replacing the DMA registers keep. -/
theorem hblankDmaStep_keeps {α : Type} (f : State → α) (hc : ∀ s, f (vdmaCopyByte s) = f s)
    (hd : ∀ s d, f (setDma s d) = f s) (s : State) : f s.hblankDmaStep = f s := by
  unfold hblankDmaStep
  split
  · simp only
    split
    · exact (hd _ _).trans (vdmaCopyBytes_keeps f hc _ s)
    · exact vdmaCopyBytes_keeps f hc _ s
  · rfl

/-- HBlank entry keeps what its four parts keep. -/
theorem hblankEntry_keeps {α : Type} (f : State → α) (hp : ∀ s p, f (setPpu s p) = f s)
    (hu : ∀ s, f (statUpdate s) = f s) (hc : ∀ s, f (vdmaCopyByte s) = f s) (hd : ∀ s d, f (setDma s d) = f s)
    (s : State) : f s.hblankEntry = f s := by
  unfold hblankEntry
  simp only
  rw [hblankDmaStep_keeps f hc hd, hu]
  split
  · exact hp _ _
  · exact (hp _ _).trans (hp _ _)

@[simp] theorem hblankEntry_cfg (s : State) : s.hblankEntry.cfg = s.cfg :=
  hblankEntry_keeps (fun s => s.cfg) (fun _ _ => rfl) statUpdate_cfg (fun _ => rfl) (fun _ _ => rfl) s
@[simp] theorem hblankEntry_sched (s : State) : s.hblankEntry.sched = s.sched :=
  hblankEntry_keeps (fun s => s.sched) (fun _ _ => rfl) statUpdate_sched (fun _ => rfl) (fun _ _ => rfl) s
@[simp] theorem hblankEntry_cpu (s : State) : s.hblankEntry.cpu = s.cpu :=
  hblankEntry_keeps (fun s => s.cpu) (fun _ _ => rfl) statUpdate_cpu (fun _ => rfl) (fun _ _ => rfl) s
@[simp] theorem hblankEntry_apu (s : State) : s.hblankEntry.apu = s.apu :=
  hblankEntry_keeps (fun s => s.apu) (fun _ _ => rfl) statUpdate_apu (fun _ => rfl) (fun _ _ => rfl) s
@[simp] theorem hblankEntry_timer (s : State) : s.hblankEntry.timer = s.timer :=
  hblankEntry_keeps (fun s => s.timer) (fun _ _ => rfl) statUpdate_timer (fun _ => rfl) (fun _ _ => rfl) s
@[simp] theorem hblankEntry_cart (s : State) : s.hblankEntry.cart = s.cart :=
  hblankEntry_keeps (fun s => s.cart) (fun _ _ => rfl) statUpdate_cart (fun _ => rfl) (fun _ _ => rfl) s
@[simp] theorem hblankEntry_joypad (s : State) : s.hblankEntry.joypad = s.joypad :=
  hblankEntry_keeps (fun s => s.joypad) (fun _ _ => rfl) statUpdate_joypad (fun _ => rfl) (fun _ _ => rfl) s
@[simp] theorem hblankEntry_serial (s : State) : s.hblankEntry.serial = s.serial :=
  hblankEntry_keeps (fun s => s.serial) (fun _ _ => rfl) statUpdate_serial (fun _ => rfl) (fun _ _ => rfl) s
@[simp] theorem hblankEntry_sampleOut (s : State) : s.hblankEntry.sampleOut = s.sampleOut :=
  hblankEntry_keeps (fun s => s.sampleOut) (fun _ _ => rfl) statUpdate_sampleOut (fun _ => rfl) (fun _ _ => rfl) s
@[simp] theorem hblankEntry_fault (s : State) : s.hblankEntry.fault = s.fault :=
  hblankEntry_keeps (fun s => s.fault) (fun _ _ => rfl) statUpdate_fault (fun _ => rfl) (fun _ _ => rfl) s

/-- What `EV_PPU` never touches. -/
theorem ppuEvent_frame (s : State) (late : Int) :
    (s.ppuEvent late).cfg = s.cfg ∧ (s.ppuEvent late).cpu = s.cpu ∧ (s.ppuEvent late).apu = s.apu ∧
    (s.ppuEvent late).timer = s.timer ∧ (s.ppuEvent late).cart = s.cart ∧ (s.ppuEvent late).joypad = s.joypad ∧
    (s.ppuEvent late).serial = s.serial ∧ (s.ppuEvent late).sampleOut = s.sampleOut ∧
    (s.ppuEvent late).sched.cycle = s.sched.cycle ∧ (s.ppuEvent late).sched.staged = s.sched.staged := by
  unfold ppuEvent
  cases s.ppu.phase with
  | off => simp
  | m2 => simp [transferEntry]
  | m3 => simp
  | m0 => simp only; split <;> simp
  | m1 => simp only; split <;> simp

/-- What `EV_TIMER_INC` never touches. -/
theorem timerIncEvent_frame (s : State) (late : Int) :
    (s.timerIncEvent late).cfg = s.cfg ∧ (s.timerIncEvent late).cpu = s.cpu ∧ (s.timerIncEvent late).irq = s.irq ∧
    (s.timerIncEvent late).mems = s.mems ∧ (s.timerIncEvent late).ppu = s.ppu ∧ (s.timerIncEvent late).apu = s.apu ∧
    (s.timerIncEvent late).dma = s.dma ∧ (s.timerIncEvent late).cart = s.cart ∧
    (s.timerIncEvent late).joypad = s.joypad ∧ (s.timerIncEvent late).serial = s.serial ∧
    (s.timerIncEvent late).sampleOut = s.sampleOut ∧ (s.timerIncEvent late).sched.cycle = s.sched.cycle ∧
    (s.timerIncEvent late).sched.staged = s.sched.staged := by
  unfold timerIncEvent
  simp only
  split <;> simp

/-- What no callback touches: parameters, CPU, collaborators, and the two cycle counters. -/
theorem fire_frame (s : State) (h : Handle) (late : Int) :
    (s.fire h late).cfg = s.cfg ∧ (s.fire h late).cpu = s.cpu ∧ (s.fire h late).cart = s.cart ∧
    (s.fire h late).joypad = s.joypad ∧ (s.fire h late).serial = s.serial ∧
    (s.fire h late).sched.cycle = s.sched.cycle ∧ (s.fire h late).sched.staged = s.sched.staged := by
  cases h with
  | ppu =>
    have f := ppuEvent_frame s late
    exact ⟨f.1, f.2.1, f.2.2.2.2.1, f.2.2.2.2.2.1, f.2.2.2.2.2.2.1, f.2.2.2.2.2.2.2.2.1, f.2.2.2.2.2.2.2.2.2⟩
  | timerInc =>
    have f := timerIncEvent_frame s late
    exact ⟨f.1, f.2.1, f.2.2.2.2.2.2.2.1, f.2.2.2.2.2.2.2.2.1, f.2.2.2.2.2.2.2.2.2.1, f.2.2.2.2.2.2.2.2.2.2.2.1,
      f.2.2.2.2.2.2.2.2.2.2.2.2⟩
  | timerReload => exact ⟨rfl, rfl, rfl, rfl, rfl, rfl, rfl⟩
  | apuFs => simp [fire, fsEvent]
  | apuSample => simp [fire, sampleEvent]
  | oamDma => simp [fire, oamDmaEvent]

/-- Induction over the loop of `Commit`: a property that every callback keeps, fired at the head of the queue with its entry
removed, and that the bound's own fault keeps, is kept by the loop. -/
theorem commitLoop_induct (P : State → Prop)
    (hfire : ∀ s h due rest, P s → s.fault = none → s.sched.queue = (h, due) :: rest → due ≤ (s.sched.cycle : Int) →
      P ((s.setQueue rest).fire h ((s.sched.cycle : Int) - due)))
    (hbound : ∀ s, P s → s.overdue = true → P (s.raiseFault .commitUnbounded)) :
    ∀ fuel s, P s → P (commitLoop fuel s) := by
  intro fuel
  induction fuel with
  | zero =>
    intro s hs
    unfold commitLoop
    split
    · exact hbound s hs ‹_›
    · exact hs
  | succ fuel ih =>
    intro s hs
    unfold commitLoop
    split
    · exact hs
    · rename_i hf
      unfold fireHead
      cases hq : s.sched.queue with
      | nil => exact hs
      | cons p rest =>
        obtain ⟨h, due⟩ := p
        by_cases hd : due ≤ (s.sched.cycle : Int)
        · simpa [hd] using ih _ (hfire s h due rest hs hf hq hd)
        · simpa [hd] using hs

/-- What `Commit` keeps: a value that folding, removing a queue entry, every callback and recording a fault keep. -/
theorem commit_keeps {α : Type} (f : State → α) (hfold : ∀ s, f (fold s) = f s) (hq : ∀ s q, f (setQueue s q) = f s)
    (hfire : ∀ s h late, f (fire s h late) = f s) (hfault : ∀ s e, f (raiseFault s e) = f s) (s : State) :
    f s.commit = f s :=
  commitLoop_induct (fun t => f t = f s)
    (fun t _ _ rest ht _ _ _ => ((hfire _ _ _).trans (hq t rest)).trans ht)
    (fun t ht _ => (hfault t _).trans ht) _ _ (hfold s)

end State

end Sys2Proof.Machine
end

