-- ==== Sys2Proof/Laws/Exec.lean ====
section
/-! SUPPORT. From an instruction to its form: the meaning of an instruction is the meaning of its form, so a proof by cases over
forms serves all 502 constructors; the step function as one equation. -/

namespace Sys2Proof

/-- A form, made an instruction, has that form again. -/
@[simp] theorem Form.form_instr (f : Form) : f.instr.form = f := by
  cases f with
  | ldRR dst src => cases dst <;> cases src <;> rfl
  | ldRN dst n => cases dst <;> rfl
  | ldRM dst => cases dst <;> rfl
  | ldMR src => cases src <;> rfl
  | ldPairNN p n => cases p <;> rfl
  | push q => cases q <;> rfl
  | pop q => cases q <;> rfl
  | aluR o r => cases o <;> cases r <;> rfl
  | aluM o => cases o <;> rfl
  | aluN o n => cases o <;> rfl
  | incR r => cases r <;> rfl
  | decR r => cases r <;> rfl
  | addHL p => cases p <;> rfl
  | incPair p => cases p <;> rfl
  | decPair p => cases p <;> rfl
  | rotR o r => cases o <;> cases r <;> rfl
  | rotM o => cases o <;> rfl
  | bitR b r => cases b <;> cases r <;> rfl
  | bitM b => cases b <;> rfl
  | resR b r => cases b <;> cases r <;> rfl
  | resM b => cases b <;> rfl
  | setR b r => cases b <;> cases r <;> rfl
  | setM b => cases b <;> rfl
  | jpCc cc n => cases cc <;> rfl
  | jrCc cc n => cases cc <;> rfl
  | callCc cc n => cases cc <;> rfl
  | retCc cc => cases cc <;> rfl
  | rst t => cases t <;> rfl
  | _ => rfl

/-- An instruction is the instruction of its form. -/
@[simp] theorem Instr.instr_form (i : Instr) : i.form.instr = i := by cases i <;> rfl

namespace Machine

/-- The meaning of an instruction is the meaning of its form, but for the prefix byte, which fetches one more byte. -/
theorem exec_eq_execForm (i : Instr) (s : State) (h : i ≠ .prefixCB) : exec i s = execForm i.form s := by
  cases i <;> first | rfl | exact absurd rfl h

/-- The meaning of a form made an instruction. -/
theorem exec_instr (f : Form) (s : State) (h : f ≠ .prefixCB) : exec f.instr s = execForm f s := by
  rw [exec_eq_execForm, Form.form_instr]
  intro e
  have := congrArg Instr.form e
  simp only [Form.form_instr] at this
  exact h this

/-- A form of the extended table is never the prefix byte nor an opcode without an entry. -/
theorem decodeExtended_cases (op2 : Byte) :
    (∃ o r, decodeExtended op2 = .rotR o r) ∨ (∃ o, decodeExtended op2 = .rotM o) ∨
    (∃ b r, decodeExtended op2 = .bitR b r) ∨ (∃ b, decodeExtended op2 = .bitM b) ∨
    (∃ b r, decodeExtended op2 = .resR b r) ∨ (∃ b, decodeExtended op2 = .resM b) ∨
    (∃ b r, decodeExtended op2 = .setR b r) ∨ (∃ b, decodeExtended op2 = .setM b) := by
  unfold decodeExtended
  split <;> simp

/-- Every form but an opcode without an entry answers a next state. -/
theorem execForm_next (f : Form) (s : State) : (∃ op, f = .illegal op) ∨ ∃ t, execForm f s = .next t := by
  cases f with
  | illegal op => exact .inl ⟨op, rfl⟩
  | jpCc cc nn => right; simp only [execForm, runJpCc]; split <;> exact ⟨_, rfl⟩
  | jrCc cc e => right; simp only [execForm, runJrCc]; split <;> exact ⟨_, rfl⟩
  | callCc cc nn => right; simp only [execForm, runCallCc]; split <;> exact ⟨_, rfl⟩
  | retCc cc => right; simp only [execForm, runRetCc]; split <;> exact ⟨_, rfl⟩
  | ei => right; simp only [execForm, runEi]; split <;> exact ⟨_, rfl⟩
  | stop n => right; simp only [execForm, runStop]; split <;> exact ⟨_, rfl⟩
  | _ => exact .inr ⟨_, rfl⟩

/-- A step that answers a next state: no fault before or after, and the iteration made that state. -/
theorem step_next {s t : State} (h : step s = .next t) : s.fault = none ∧ t.fault = none ∧ s.iterate = .next t := by
  unfold step at h
  cases hf : s.fault with
  | some f => simp [hf] at h
  | none =>
    simp only [hf] at h
    cases hi : s.iterate with
    | next u =>
      simp only [hi] at h
      cases hu : u.fault with
      | some f => simp [hu] at h
      | none =>
        simp only [hu] at h
        cases h
        exact ⟨rfl, hu, rfl⟩
    | fault f => simp [hi] at h
    | refused r => simp [hi] at h

/-- An iteration that answers a next state: a dispatch, a fast-forward, or an instruction with or without a fatal error. -/
theorem iterate_next {s t : State} (h : s.iterate = .next t) :
    (s.serviceable ≠ 0 ∧ s.cpu.ime = true ∧ t = (s.wake.serviceInterrupt (lowestSet s.serviceable)).commit) ∨
    ((s.serviceable = 0 ∨ s.cpu.ime = false) ∧ (if s.serviceable = 0 then s else s.wake).runOrIdle = .next t) := by
  unfold State.iterate at h
  by_cases hz : s.serviceable = 0
  · exact .inr ⟨.inl hz, by simpa [hz] using h⟩
  · simp only [hz, if_false] at h
    cases hi : s.cpu.ime with
    | true =>
      have : s.wake.cpu.ime = true := hi
      simp only [this, if_true] at h
      cases h
      exact .inl ⟨hz, rfl, rfl⟩
    | false =>
      have : s.wake.cpu.ime = false := hi
      rw [this] at h
      exact .inr ⟨.inr rfl, by rw [if_neg hz]; exact h⟩

end Machine

end Sys2Proof
end

