-- ==== Sys2Proof/Laws/Flags.lean ====
section
/-! SUPPORT. What the flag computations of Machine/Flags.lean say in the words of the rules: half carries by masks, sums and
differences of integers, shifts. -/

namespace Sys2Proof

namespace Machine

/-- A limit is exceeded iff it is below. -/
@[simp] theorem exceeds_eq (n limit : Nat) : exceeds n limit = decide (limit < n) := by
  simp [exceeds, ← decide_not]

/-- The low nibble is the byte masked. -/
theorem nibble_eq (v : Byte) : nibble v = (v &&& 0x0F).toNat := by
  rw [BitVec.toNat_and]
  exact (Nat.and_two_pow_sub_one_eq_mod v.toNat 4).symm

/-- A word masked to its low 12, 8 and 4 bits, as a number. -/
theorem word_and_low (v : Word) :
    (v &&& 0x0FFF).toNat = v.toNat % 4096 ∧ (v &&& 0xFF).toNat = v.toNat % 256 ∧ (v &&& 0x0F).toNat = v.toNat % 16 := by
  refine ⟨?_, ?_, ?_⟩ <;> rw [BitVec.toNat_and]
  · exact Nat.and_two_pow_sub_one_eq_mod v.toNat 12
  · exact Nat.and_two_pow_sub_one_eq_mod v.toNat 8
  · exact Nat.and_two_pow_sub_one_eq_mod v.toNat 4

/-- `ADD` and `ADC`: the sum and its flags, the half carry by masks (R241, R242). -/
theorem addByte_eq (a v : Byte) (c : Bool) :
    addByte a v c =
      (BitVec.ofNat 8 (a.toNat + v.toNat + c.toNat),
        { z := decide (BitVec.ofNat 8 (a.toNat + v.toNat + c.toNat) = 0), n := false,
          h := decide (0x0F < (a &&& 0x0F).toNat + (v &&& 0x0F).toNat + c.toNat),
          c := decide (0xFF < a.toNat + v.toNat + c.toNat) }) := by
  simp only [addByte, exceeds_eq, nibble_eq]

/-- The difference of two bytes and a borrow, as an integer reduced modulo 256. -/
theorem sub_borrow (a v : Byte) (c : Bool) :
    a - v - (BitVec.ofBool c).zeroExtend 8 = BitVec.ofInt 8 ((a.toNat : Int) - v.toNat - c.toNat) := by
  have ha := a.isLt
  have hv := v.isLt
  apply BitVec.eq_of_toNat_eq
  cases c <;> simp [BitVec.toNat_sub, BitVec.toNat_ofInt] <;> omega

/-- `SUB`, `SBC`, `CP`: the difference and its flags, the half borrow by masks (R243, R244, R248). -/
theorem subByte_eq (a v : Byte) (c : Bool) :
    subByte a v c =
      (BitVec.ofInt 8 ((a.toNat : Int) - v.toNat - c.toNat),
        { z := decide (BitVec.ofInt 8 ((a.toNat : Int) - v.toNat - c.toNat) = 0), n := true,
          h := decide ((a &&& 0x0F).toNat < (v &&& 0x0F).toNat + c.toNat),
          c := decide (a.toNat < v.toNat + c.toNat) }) := by
  simp only [subByte, nibble_eq, sub_borrow]

/-- The two bytes of a word made of two bytes. -/
@[simp] theorem ofBytes_hi (h l : Byte) : (Word.ofBytes h l).hi = h := by
  apply BitVec.eq_of_getLsbD_eq
  intro i hi
  have e := BitVec.getLsbD_append (x := (h : BitVec 8)) (y := (l : BitVec 8)) (i := 8 + i)
  simp only [Word.hi, Word.ofBytes, BitVec.getLsbD_extractLsb', hi, decide_true, Bool.true_and]
  rw [if_neg (by omega)] at e
  simpa using e

@[simp] theorem ofBytes_lo (h l : Byte) : (Word.ofBytes h l).lo = l := by
  apply BitVec.eq_of_getLsbD_eq
  intro i hi
  have e := BitVec.getLsbD_append (x := (h : BitVec 8)) (y := (l : BitVec 8)) (i := i)
  simp only [Word.lo, Word.ofBytes, BitVec.getLsbD_extractLsb', hi, decide_true, Bool.true_and]
  simpa [hi] using e

/-- A condition holds on the flags iff it is met (R146). -/
theorem condHolds_iff (cc : Cond) (s : State) : condHolds cc s.cpu.f = true ↔ conditionMet cc s := by
  cases cc <;> simp [condHolds, conditionMet]

/-- The rotates and shifts in the words of R275 to R282. -/
theorem rotByte_eq {rot : RotOp} {c : Bool} {v w : Byte} {out : Bool} (h : rotated rot c v w out) :
    rotByte rot c v = (w, out) := by
  cases rot <;> simp only [rotated] at h <;> obtain ⟨rfl, rfl⟩ := h <;> revert v c <;> decide

/-- An accumulator operation in each of its three forms (R240). -/
theorem exec_alu {op : AluOp} {s : State} {i : Instr} {v : Byte} {m : Nat} (h : aluOperand op s i v m) :
    exec i s = (s.setAF (aluByte op s.cpu.f s.cpu.a v)).done m := by
  obtain ⟨r, rfl, rfl, rfl⟩ | ⟨rfl, rfl, rfl⟩ | ⟨rfl, rfl⟩ := h <;> rw [exec_instr _ _ (by simp)] <;> rfl

end Machine

end Sys2Proof
end

