-- ==== Sys2Proof/Laws/Region.lean ====
section
/-! SUPPORT. The address decoder answers places that exist. -/

namespace Sys2Proof.Machine

/-- A place of a memory lies inside that memory on a console of the given variant (R37 to R40, R42, R112). -/
def Region.inRange (m : Model) (r : Region) : Prop :=
  match r with
  | .cart k => k < 0xC000
  | .vram k => k < if m = .cgb then 16384 else 8192
  | .wram k => k < if m = .cgb then 32768 else 8192
  | .oam i => i < 160
  | .hram i => i < 127
  | .io (.wave i) => i < 16
  | .boot _ | .io _ | .unmapped | .ie => True

/-- The wave pattern has 16 bytes. -/
theorem IoReg.ofOffset_wave {off i : Nat} (h : IoReg.ofOffset off = some (.wave i)) : i < 16 := by
  unfold IoReg.ofOffset at h
  split at h <;> first
    | (split at h <;> simp_all; omega)
    | simp_all

/-- What an I/O address decodes to. -/
theorem ioRegion_inRange (m : Model) (off : Nat) : (ioRegion m off).inRange m := by
  unfold ioRegion IoReg.decode
  cases h : IoReg.ofOffset off with
  | none => trivial
  | some r =>
    simp only
    by_cases hc : (r.cgbOnly && decide (m = .dmg)) = true
    · simp only [hc, if_true]; trivial
    · simp only [hc, if_false, Bool.false_eq_true]
      cases r with
      | wave i => exact IoReg.ofOffset_wave h
      | _ => trivial

namespace State

/-- The cartridge sees the CPU's address unchanged (R87, R112). -/
theorem region_cart {s : State} {a : Word} {k : Nat} (h : s.region a = .cart k) : k = a.toNat := by
  unfold State.region regionAt at h
  generalize a.toNat = n at h ⊢
  split at h
  · cases h
  split at h
  · unfold lowRegion at h
    split at h <;> (try split at h) <;> cases h <;> rfl
  split at h
  · unfold workRegion at h; split at h <;> cases h
  · unfold highRegion at h
    split at h
    · split at h <;> cases h
    split at h
    · unfold ioRegion at h; split at h <;> cases h
    · split at h <;> cases h

/-- Whatever an address decodes to lies inside its memory. -/
theorem region_inRange (s : State) (a : Word) (hd : s.DmgInv) : (s.region a).inRange s.cfg.model := by
  have hv : s.cfg.model = .dmg → s.mems.vbk.toNat = 0 := fun h => by
    have : s.mems.vbk = 0 := (hd h).2.2.1
    rw [this]; rfl
  have hvlt := s.mems.vbk.isLt
  have hslt := s.mems.svbk.isLt
  have hw : ∀ k, k < 4096 → (Region.wram (4096 * wramBank s.cfg.model s.mems.svbk + k)).inRange s.cfg.model := by
    intro k hk
    cases hm : s.cfg.model with
    | dmg => simp only [Region.inRange, wramBank]; simp; omega
    | cgb => simp only [Region.inRange, wramBank, if_true]; omega
  have hw0 : ∀ k, k < 4096 → (Region.wram k).inRange s.cfg.model := by
    intro k hk; simp only [Region.inRange]; split <;> omega
  unfold State.region regionAt
  split
  · trivial
  split
  · unfold lowRegion
    split
    · simp only [Region.inRange]; omega
    split
    · simp only [Region.inRange]
      split
      · omega
      · have : s.cfg.model = .dmg := by cases hm : s.cfg.model <;> simp_all
        rw [hv this]; omega
    · simp only [Region.inRange]; omega
  split
  · unfold workRegion
    split
    · exact hw0 _ (Nat.mod_lt _ (by decide))
    · exact hw _ (Nat.mod_lt _ (by decide))
  · unfold highRegion
    split
    · split <;> simp only [Region.inRange]; omega
    split
    · exact ioRegion_inRange _ _
    split
    · simp only [Region.inRange]; omega
    · trivial

end State

end Sys2Proof.Machine
end

