-- ==== Sys2Proof/Tests/Slice0.lean ====
section
/-! SUPPORT. Tests on fixed values, their expected results from the encodings, the worked examples and the vectors of the spec,
and one witness for the hypotheses of each obligation. -/

open Sys2Proof Sys2Proof.Machine

set_option maxRecDepth 10000

/-! ## Helpers -/

/-- Code at 0x0100 of the state after reset, with some CPU registers set. -/
def Tests.placed (code : List Byte) (set : Cpu → Cpu) : State :=
  let s := State.reset.pokeBytes 0x0100 code
  { s with cpu := set s.cpu }

/-- The next state exists and shows something. -/
def Tests.shows (r : StepResult) (p : State → Bool) : Bool :=
  match r with
  | .next t => p t
  | .fault _ => false
  | .refused _ => false

/-- The flags of a flag byte. -/
def Tests.flags (v : Byte) : Flags := Flags.ofByte v

/-- The state after reset of a CGB. -/
def Tests.cgb : State :=
  State.resetWith (defaultConfig .cgb) true { Cart.blank with info := { Cart.blank.info with cgbSupport := true } } ⟨0xFF, 0⟩
    ⟨0xFF, 0xFF, 0⟩

/-- The state after reset with no event pending. -/
def Tests.quiet : State := { State.reset with sched := { cycle := 100, staged := 0, queue := [] } }

/-- The state after reset with another PPU phase and line. -/
def Tests.atLine (phase : Phase) (ly : Byte) : State :=
  { Tests.quiet with ppu := { State.reset.ppu with phase := phase, mode := phase.mode, ly := ly } }

/-! ## Well-formedness: an ill-formed term for the one check there is, and a well-formed one -/

theorem test_wf_illegal_with_an_entry : (Instr.illegal 0x00).wf = false := by decide
theorem test_wf_illegal_prefix_byte : (Instr.illegal 0xCB).wf = false := by decide
theorem test_wf_illegal_without_entry : (Instr.illegal 0xD3).wf = true := by decide
theorem test_wf_nop : Instr.nop.wf = true := by decide

/-! ## Decoding: words written out bit by bit from the formats and grids of 30_encoding.md -/

theorem test_decode_ld_r_r : decode [0b01000001#8] = .ok (.ld_B_C, []) := by decide
theorem test_decode_ld_a_hl : decode [0b01111110#8] = .ok (.ld_A_atHL, []) := by decide
theorem test_decode_ld_hl_a : decode [0b01110111#8] = .ok (.ld_atHL_A, []) := by decide
theorem test_decode_ld_r_n : decode [0b00010110#8, 0x7F] = .ok (.ld_D_n8 0x7F, []) := by decide
theorem test_decode_ld_hl_n : decode [0b00110110#8, 0xA5] = .ok (.ld_atHL_n8 0xA5, []) := by decide
theorem test_decode_ld_rr_nn : decode [0b00100001#8, 0x34, 0x12] = .ok (.ld_HL_n16 0x1234, []) := by decide
theorem test_decode_ld_a_bc : decode [0b00001010#8] = .ok (.ld_A_atBC, []) := by decide
theorem test_decode_ldh_n_a : decode [0b11100000#8, 0x91] = .ok (.ldh_atN8_A 0x91, []) := by decide
theorem test_decode_ldh_a_c : decode [0b11110010#8] = .ok (.ldh_A_atC, []) := by decide
theorem test_decode_ld_nn_sp : decode [0b00001000#8, 0x00, 0xC0] = .ok (.ld_atN16_SP 0xC000, []) := by decide
theorem test_decode_push_af : decode [0b11110101#8] = .ok (.push_AF, []) := by decide
theorem test_decode_pop_de : decode [0b11010001#8] = .ok (.pop_DE, []) := by decide
theorem test_decode_adc_a_e : decode [0b10001011#8] = .ok (.adc_A_E, []) := by decide
theorem test_decode_cp_n : decode [0b11111110#8, 0x3C] = .ok (.cp_n8 0x3C, []) := by decide
theorem test_decode_inc_h : decode [0b00100100#8] = .ok (.inc_H, []) := by decide
theorem test_decode_dec_hl : decode [0b00110101#8] = .ok (.dec_atHL, []) := by decide
theorem test_decode_add_hl_sp : decode [0b00111001#8] = .ok (.add_HL_SP, []) := by decide
theorem test_decode_dec_rr : decode [0b00011011#8] = .ok (.dec_DE, []) := by decide
theorem test_decode_add_sp : decode [0b11101000#8, 0xFF] = .ok (.add_SP_e8 0xFF, []) := by decide
theorem test_decode_rrca : decode [0b00001111#8] = .ok (.rrca, []) := by decide
theorem test_decode_swap_l : decode [0b11001011#8, 0b00110101#8] = .ok (.swap_L, []) := by decide
theorem test_decode_bit_4_l : decode [0b11001011#8, 0b01100101#8] = .ok (.bit_4_L, []) := by decide
theorem test_decode_res_3_hl : decode [0b11001011#8, 0b10011110#8] = .ok (.res_3_atHL, []) := by decide
theorem test_decode_set_1_e : decode [0b11001011#8, 0b11001011#8] = .ok (.set_1_E, []) := by decide
theorem test_decode_jp_nc : decode [0b11010010#8, 0x50, 0x01] = .ok (.jp_NC_n16 0x0150, []) := by decide
theorem test_decode_jr_z : decode [0b00101000#8, 0x05] = .ok (.jr_Z_e8 0x05, []) := by decide
theorem test_decode_call_c : decode [0b11011100#8, 0x34, 0x12] = .ok (.call_C_n16 0x1234, []) := by decide
theorem test_decode_ret_nz : decode [0b11000000#8] = .ok (.ret_NZ, []) := by decide
theorem test_decode_rst_28 : decode [0b11101111#8] = .ok (.rst_28, []) := by decide
theorem test_decode_stop : decode [0b00010000#8, 0x00] = .ok (.stop 0x00, []) := by decide
theorem test_decode_halt : decode [0b01110110#8] = .ok (.halt, []) := by decide
theorem test_decode_illegal : decode [0b11010011#8] = .ok (.illegal 0xD3, []) := by decide
theorem test_decode_prefix_alone : decode [0b11001011#8] = .ok (.prefixCB, []) := by decide
theorem test_decode_leaves_rest : decode [0x3E, 0x42, 0x76] = .ok (.ld_A_n8 0x42, [0x76]) := by decide
theorem test_decode_rejects_no_bytes : decode [] = .error .noBytes := by decide
theorem test_decode_rejects_cut_short : decode [0xC3, 0x50] = .error (.truncated 0xC3) := by decide
theorem test_decode_table_word : decodeTableWord 8 0x41 = some .ld_B_C := by decide
theorem test_decode_table_word_operand : decodeTableWord 8 0xC3 = some (.jp_n16 0x0000) := by decide
theorem test_decode_table_word_extended : decodeTableWord 16 0x37CB = some .swap_A := by decide
theorem test_encode_word : encode (.ld_HL_n16 0x1234) = [0x21, 0x34, 0x12] := by decide
theorem test_with_fetch_word :
    Tests.shows (step (State.reset.withFetchWord 8 0x3C)) (fun t => decide (t.cpu.a = 0x02 ∧ t.cpu.pc = 0x0101)) = true := by
  decide
theorem test_with_fetch_word_extended :
    Tests.shows (step (State.reset.withFetchWord 16 0x37CB)) (fun t => decide (t.cpu.a = 0x10 ∧ t.cpu.pc = 0x0102)) = true := by
  decide

/-! ## Instructions: the examples of their rules, one step from 0x0100 -/

theorem test_ld_b_c :
    Tests.shows (step (Tests.placed [0x41] fun c => { c with c := 0x5A }))
      (fun t => decide (t.cpu.b = 0x5A ∧ t.cpu.pc = 0x0101 ∧ t.sched.cycle = 4)) = true := by
  decide
theorem test_ld_d_n :
    Tests.shows (step (Tests.placed [0x16, 0x7F] fun c => c))
      (fun t => decide (t.cpu.d = 0x7F ∧ t.cpu.pc = 0x0102 ∧ t.sched.cycle = 8)) = true := by
  decide
theorem test_ld_l_hl_uses_old_hl :
    Tests.shows (step ((Tests.placed [0x6E] fun c => { c with h := 0xC1, l := 0x23 }).poke 0xC123 0x9C))
      (fun t => decide (t.cpu.l = 0x9C ∧ t.sched.cycle = 8)) = true := by
  decide
theorem test_ld_hl_n :
    Tests.shows (step (Tests.placed [0x36, 0xA5] fun c => { c with h := 0xD0, l := 0x00 }))
      (fun t => decide (t.busRead 0xD000 = 0xA5 ∧ t.sched.cycle = 12)) = true := by
  decide
theorem test_ld_a_de :
    Tests.shows (step ((Tests.placed [0x1A] fun c => { c with d := 0xC0, e := 0x20 }).poke 0xC020 0x88))
      (fun t => decide (t.cpu.a = 0x88)) = true := by
  decide
theorem test_ld_nn_a :
    Tests.shows (step (Tests.placed [0xEA, 0x00, 0xC1] fun c => { c with a := 0x99 }))
      (fun t => decide (t.busRead 0xC100 = 0x99 ∧ t.cpu.pc = 0x0103 ∧ t.sched.cycle = 16)) = true := by
  decide
theorem test_ldh_n_a :
    Tests.shows (step (Tests.placed [0xE0, 0x91] fun c => { c with a := 0xCD }))
      (fun t => decide (t.busRead 0xFF91 = 0xCD ∧ t.sched.cycle = 12)) = true := by
  decide
theorem test_ldh_a_n_reads_if :
    Tests.shows (step (Tests.placed [0xF0, 0x0F] fun c => c))
      (fun t => decide (t.cpu.a = 0xE1 ∧ t.sched.cycle = 12)) = true := by
  decide
theorem test_ldi_reads_ie_and_wraps :
    Tests.shows (step (Tests.placed [0x2A] fun c => { c with h := 0xFF, l := 0xFF }))
      (fun t => decide (t.cpu.a = 0x00 ∧ t.cpu.h = 0x00 ∧ t.cpu.l = 0x00)) = true := by
  decide
theorem test_ldd_stores_then_moves :
    Tests.shows (step (Tests.placed [0x32] fun c => { c with a := 0x22, h := 0xC0, l := 0x01 }))
      (fun t => decide (t.busRead 0xC001 = 0x22 ∧ t.cpu.h = 0xC0 ∧ t.cpu.l = 0x00)) = true := by
  decide
theorem test_ld_nn_sp :
    Tests.shows (step (Tests.placed [0x08, 0x00, 0xC0] fun c => { c with sp := 0xFFF8 }))
      (fun t => decide (t.busRead 0xC000 = 0xF8 ∧ t.busRead 0xC001 = 0xFF ∧ t.sched.cycle = 20)) = true := by
  decide
theorem test_push_bc :
    Tests.shows (step (Tests.placed [0xC5] fun c => { c with b := 0x12, c := 0x34, sp := 0xD000 }))
      (fun t => decide (t.busRead 0xCFFF = 0x12 ∧ t.busRead 0xCFFE = 0x34 ∧ t.cpu.sp = 0xCFFE)) = true := by
  decide
theorem test_pop_af_drops_low_nibble :
    Tests.shows (step (((Tests.placed [0xF1] fun c => { c with sp := 0xC000 }).poke 0xC000 0xFF).poke 0xC001 0x12))
      (fun t => decide (t.cpu.a = 0x12 ∧ t.cpu.f = Tests.flags 0xF0 ∧ t.cpu.sp = 0xC002)) = true := by
  decide
theorem test_ld_hl_sp_e :
    Tests.shows (step (Tests.placed [0xF8, 0x08] fun c => { c with sp := 0x00F8 }))
      (fun t => decide (t.cpu.h = 0x01 ∧ t.cpu.l = 0x00 ∧ t.cpu.f = Tests.flags 0x30 ∧ t.sched.cycle = 12)) = true := by
  decide
theorem test_ld_hl_sp_e_negative :
    Tests.shows (step (Tests.placed [0xF8, 0xFE] fun c => { c with sp := 0xD001 }))
      (fun t => decide (t.cpu.h = 0xCF ∧ t.cpu.l = 0xFF ∧ t.cpu.f = Tests.flags 0x00)) = true := by
  decide
theorem test_add_sp_e :
    Tests.shows (step (Tests.placed [0xE8, 0xFF] fun c => { c with sp := 0x00FF }))
      (fun t => decide (t.cpu.sp = 0x00FE ∧ t.cpu.f = Tests.flags 0x30 ∧ t.sched.cycle = 16)) = true := by
  decide
theorem test_add_a_b :
    Tests.shows (step (Tests.placed [0x80] fun c => { c with a := 0x3A, b := 0xC6 }))
      (fun t => decide (t.cpu.a = 0x00 ∧ t.cpu.f = Tests.flags 0xB0)) = true := by
  decide
theorem test_add_a_a :
    Tests.shows (step (Tests.placed [0x87] fun c => { c with a := 0x88 }))
      (fun t => decide (t.cpu.a = 0x10 ∧ t.cpu.f = Tests.flags 0x30)) = true := by
  decide
theorem test_adc_carries_through :
    Tests.shows (step (Tests.placed [0xCE, 0xFF] fun c => { c with a := 0x00, f := Tests.flags 0x10 }))
      (fun t => decide (t.cpu.a = 0x00 ∧ t.cpu.f = Tests.flags 0xB0)) = true := by
  decide
theorem test_sub_a_a :
    Tests.shows (step (Tests.placed [0x97] fun c => { c with a := 0x3E }))
      (fun t => decide (t.cpu.a = 0x00 ∧ t.cpu.f = Tests.flags 0xC0)) = true := by
  decide
theorem test_sbc_256 :
    Tests.shows (step (Tests.placed [0xDE, 0xFF] fun c => { c with a := 0x00, f := Tests.flags 0x10 }))
      (fun t => decide (t.cpu.a = 0x00 ∧ t.cpu.f = Tests.flags 0xF0)) = true := by
  decide
theorem test_and_sets_half :
    Tests.shows (step (Tests.placed [0xE6, 0x0F] fun c => { c with a := 0xF0, f := Tests.flags 0x10 }))
      (fun t => decide (t.cpu.a = 0x00 ∧ t.cpu.f = Tests.flags 0xA0)) = true := by
  decide
theorem test_xor_a :
    Tests.shows (step (Tests.placed [0xAF] fun c => { c with a := 0x5A, f := Tests.flags 0xF0 }))
      (fun t => decide (t.cpu.a = 0x00 ∧ t.cpu.f = Tests.flags 0x80)) = true := by
  decide
theorem test_or_n :
    Tests.shows (step (Tests.placed [0xF6, 0x0F] fun c => { c with a := 0x50, f := Tests.flags 0xF0 }))
      (fun t => decide (t.cpu.a = 0x5F ∧ t.cpu.f = Tests.flags 0x00)) = true := by
  decide
theorem test_cp_keeps_a :
    Tests.shows (step (Tests.placed [0xFE, 0x40] fun c => { c with a := 0x3C }))
      (fun t => decide (t.cpu.a = 0x3C ∧ t.cpu.f = Tests.flags 0x50)) = true := by
  decide
theorem test_inc_b_keeps_carry :
    Tests.shows (step (Tests.placed [0x04] fun c => { c with b := 0xFF, f := Tests.flags 0x10 }))
      (fun t => decide (t.cpu.b = 0x00 ∧ t.cpu.f = Tests.flags 0xB0)) = true := by
  decide
theorem test_dec_hl :
    Tests.shows (step (Tests.placed [0x35] fun c => { c with h := 0xC0, l := 0x00, f := Tests.flags 0x10 }))
      (fun t => decide (t.busRead 0xC000 = 0xFF ∧ t.cpu.f = Tests.flags 0x70 ∧ t.sched.cycle = 12)) = true := by
  decide
theorem test_daa_after_add :
    Tests.shows (step (Tests.placed [0x27] fun c => { c with a := 0x9A, f := Tests.flags 0x00 }))
      (fun t => decide (t.cpu.a = 0x00 ∧ t.cpu.f = Tests.flags 0x90)) = true := by
  decide
theorem test_daa_after_sub_no_flags :
    Tests.shows (step (Tests.placed [0x27] fun c => { c with a := 0x9A, f := Tests.flags 0x40 }))
      (fun t => decide (t.cpu.a = 0x9A ∧ t.cpu.f = Tests.flags 0x40)) = true := by
  decide
theorem test_cpl :
    Tests.shows (step (Tests.placed [0x2F] fun c => { c with a := 0x35, f := Tests.flags 0x90 }))
      (fun t => decide (t.cpu.a = 0xCA ∧ t.cpu.f = Tests.flags 0xF0)) = true := by
  decide
theorem test_ccf :
    Tests.shows (step (Tests.placed [0x3F] fun c => { c with f := Tests.flags 0x90 }))
      (fun t => decide (t.cpu.f = Tests.flags 0x80)) = true := by
  decide
theorem test_scf :
    Tests.shows (step (Tests.placed [0x37] fun c => { c with f := Tests.flags 0xE0 }))
      (fun t => decide (t.cpu.f = Tests.flags 0x90)) = true := by
  decide
theorem test_add_hl_de :
    Tests.shows (step (Tests.placed [0x19] fun c => { c with h := 0x0F, l := 0xFF, d := 0x00, e := 0x01, f := Tests.flags 0x00 }))
      (fun t => decide (t.cpu.h = 0x10 ∧ t.cpu.l = 0x00 ∧ t.cpu.f = Tests.flags 0x20)) = true := by
  decide
theorem test_inc_sp_wraps :
    Tests.shows (step (Tests.placed [0x33] fun c => { c with sp := 0xFFFF }))
      (fun t => decide (t.cpu.sp = 0x0000 ∧ t.cpu.f = Tests.flags 0xB0)) = true := by
  decide
theorem test_rlca_clears_z :
    Tests.shows (step (Tests.placed [0x07] fun c => { c with a := 0x00, f := Tests.flags 0xF0 }))
      (fun t => decide (t.cpu.a = 0x00 ∧ t.cpu.f = Tests.flags 0x00)) = true := by
  decide
theorem test_rra :
    Tests.shows (step (Tests.placed [0x1F] fun c => { c with a := 0x01, f := Tests.flags 0x00 }))
      (fun t => decide (t.cpu.a = 0x00 ∧ t.cpu.f = Tests.flags 0x10)) = true := by
  decide
theorem test_rlc_hl :
    Tests.shows (step (Tests.placed [0xCB, 0x06] fun c => { c with h := 0xC0, l := 0x00, f := Tests.flags 0x10 }))
      (fun t => decide (t.busRead 0xC000 = 0x00 ∧ t.cpu.f = Tests.flags 0x80 ∧ t.cpu.pc = 0x0102 ∧ t.sched.cycle = 16)) = true := by
  decide
theorem test_rrc_c :
    Tests.shows (step (Tests.placed [0xCB, 0x09] fun c => { c with c := 0x01, f := Tests.flags 0x00 }))
      (fun t => decide (t.cpu.c = 0x80 ∧ t.cpu.f = Tests.flags 0x10)) = true := by
  decide
theorem test_rl_l :
    Tests.shows (step (Tests.placed [0xCB, 0x15] fun c => { c with l := 0x80, f := Tests.flags 0x00 }))
      (fun t => decide (t.cpu.l = 0x00 ∧ t.cpu.f = Tests.flags 0x90)) = true := by
  decide
theorem test_rr_hl :
    Tests.shows (step ((Tests.placed [0xCB, 0x1E] fun c => { c with h := 0xC0, l := 0x00, f := Tests.flags 0x00 }).poke 0xC000 0x8A))
      (fun t => decide (t.busRead 0xC000 = 0x45 ∧ t.cpu.f = Tests.flags 0x00)) = true := by
  decide
theorem test_sla_d :
    Tests.shows (step (Tests.placed [0xCB, 0x22] fun c => { c with d := 0x80 }))
      (fun t => decide (t.cpu.d = 0x00 ∧ t.cpu.f = Tests.flags 0x90)) = true := by
  decide
theorem test_sra_a :
    Tests.shows (step (Tests.placed [0xCB, 0x2F] fun c => { c with a := 0x8A }))
      (fun t => decide (t.cpu.a = 0xC5 ∧ t.cpu.f = Tests.flags 0x00)) = true := by
  decide
theorem test_swap_hl :
    Tests.shows (step ((Tests.placed [0xCB, 0x36] fun c => { c with h := 0xC0, l := 0x00 }).poke 0xC000 0xF1))
      (fun t => decide (t.busRead 0xC000 = 0x1F ∧ t.cpu.f = Tests.flags 0x00)) = true := by
  decide
theorem test_srl_a :
    Tests.shows (step (Tests.placed [0xCB, 0x3F] fun c => { c with a := 0x01 }))
      (fun t => decide (t.cpu.a = 0x00 ∧ t.cpu.f = Tests.flags 0x90)) = true := by
  decide
theorem test_bit_7_a :
    Tests.shows (step (Tests.placed [0xCB, 0x7F] fun c => { c with a := 0x80, f := Tests.flags 0x10 }))
      (fun t => decide (t.cpu.f = Tests.flags 0x30)) = true := by
  decide
theorem test_bit_0_hl :
    Tests.shows (step ((Tests.placed [0xCB, 0x46] fun c => { c with h := 0xC0, l := 0x00, f := Tests.flags 0x40 }).poke 0xC000 0xFE))
      (fun t => decide (t.cpu.f = Tests.flags 0xA0 ∧ t.sched.cycle = 12)) = true := by
  decide
theorem test_res_1_l :
    Tests.shows (step (Tests.placed [0xCB, 0x8D] fun c => { c with l := 0x3B }))
      (fun t => decide (t.cpu.l = 0x39 ∧ t.cpu.f = Tests.flags 0xB0)) = true := by
  decide
theorem test_set_3_hl :
    Tests.shows (step (Tests.placed [0xCB, 0xDE] fun c => { c with h := 0xC0, l := 0x00 }))
      (fun t => decide (t.busRead 0xC000 = 0x08 ∧ t.sched.cycle = 16)) = true := by
  decide
theorem test_jp_nz_not_taken :
    Tests.shows (step (Tests.placed [0xC2, 0x50, 0x01] fun c => { c with f := Tests.flags 0x80 }))
      (fun t => decide (t.cpu.pc = 0x0103 ∧ t.sched.cycle = 12)) = true := by
  decide
theorem test_jp_nz_taken :
    Tests.shows (step (Tests.placed [0xC2, 0x50, 0x01] fun c => { c with f := Tests.flags 0x00 }))
      (fun t => decide (t.cpu.pc = 0x0150 ∧ t.sched.cycle = 16)) = true := by
  decide
theorem test_jr_backwards :
    Tests.shows (step (Tests.placed [0x18, 0x80] fun c => c))
      (fun t => decide (t.cpu.pc = 0x0082 ∧ t.sched.cycle = 12)) = true := by
  decide
theorem test_jr_nc_taken :
    Tests.shows (step (Tests.placed [0x30, 0xFB] fun c => { c with f := Tests.flags 0x00 }))
      (fun t => decide (t.cpu.pc = 0x00FD)) = true := by
  decide
theorem test_jp_hl :
    Tests.shows (step (Tests.placed [0xE9] fun c => { c with h := 0xC0, l := 0x00 }))
      (fun t => decide (t.cpu.pc = 0xC000 ∧ t.sched.cycle = 4)) = true := by
  decide
theorem test_call_nn :
    Tests.shows (step (Tests.placed [0xCD, 0x34, 0x12] fun c => { c with sp := 0xD000 }))
      (fun t => decide (t.busRead 0xCFFF = 0x01 ∧ t.busRead 0xCFFE = 0x03 ∧ t.cpu.sp = 0xCFFE ∧ t.cpu.pc = 0x1234)) = true := by
  decide
theorem test_call_z_not_taken :
    Tests.shows (step (Tests.placed [0xCC, 0x34, 0x12] fun c => { c with sp := 0xD000, f := Tests.flags 0x00 }))
      (fun t => decide (t.cpu.pc = 0x0103 ∧ t.cpu.sp = 0xD000 ∧ t.sched.cycle = 12)) = true := by
  decide
theorem test_ret_nc_taken :
    Tests.shows (step (((Tests.placed [0xD0] fun c => { c with sp := 0xC000, f := Tests.flags 0x00 }).poke 0xC000 0x03).poke 0xC001 0x80))
      (fun t => decide (t.cpu.pc = 0x8003 ∧ t.cpu.sp = 0xC002 ∧ t.sched.cycle = 20)) = true := by
  decide
theorem test_reti :
    Tests.shows (step (((Tests.placed [0xD9] fun c => { c with sp := 0xC000 }).poke 0xC000 0x50).poke 0xC001 0x01))
      (fun t => decide (t.cpu.pc = 0x0150 ∧ t.cpu.ime = true ∧ t.sched.cycle = 16)) = true := by
  decide
theorem test_rst_28 :
    Tests.shows (step (Tests.placed [0xEF] fun c => { c with sp := 0xD000 }))
      (fun t => decide (t.busRead 0xCFFE = 0x01 ∧ t.cpu.pc = 0x0028 ∧ t.sched.cycle = 16)) = true := by
  decide
theorem test_ei_is_delayed :
    Tests.shows (step (Tests.placed [0xFB] fun c => c))
      (fun t => decide (t.cpu.ime = false ∧ t.cpu.imePending = true)) = true := by
  decide
theorem test_nop_after_ei_enables :
    Tests.shows (step (Tests.placed [0x00] fun c => { c with imePending := true }))
      (fun t => decide (t.cpu.ime = true ∧ t.cpu.imePending = false)) = true := by
  decide
theorem test_di_after_ei_cancels :
    Tests.shows (step (Tests.placed [0xF3] fun c => { c with imePending := true }))
      (fun t => decide (t.cpu.ime = false ∧ t.cpu.imePending = false)) = true := by
  decide
theorem test_halt :
    Tests.shows (step (Tests.placed [0x76] fun c => c))
      (fun t => decide (t.cpu.halted = true ∧ t.cpu.pc = 0x0101)) = true := by
  decide
theorem test_stop_on_dmg :
    Tests.shows (step (Tests.placed [0x10, 0x00] fun c => { c with speedArmed := true }))
      (fun t => decide (t.cpu.speed = false ∧ t.cpu.pc = 0x0102 ∧ t.sched.cycle = 4)) = true := by
  decide
theorem test_stop_switches_speed_on_cgb :
    Tests.shows (exec (.stop 0x00) { Tests.cgb with cpu := { Tests.cgb.cpu with speedArmed := true } })
      (fun t => decide (t.cpu.speed = true ∧ t.cpu.speedArmed = false ∧ t.sched.staged = 2)) = true := by
  decide
theorem test_prefix_alone_runs_the_next_byte :
    Tests.shows (exec .prefixCB (Tests.placed [0x37] fun c => { c with a := 0xF1 }))
      (fun t => decide (t.cpu.a = 0x1F ∧ t.cpu.pc = 0x0101 ∧ t.sched.staged = 8)) = true := by
  decide
theorem test_trigger_overflow_disables_at_once :
    ({ State.reset.apu with
        ch1 := { State.reset.apu.ch1 with freq := 0x7FF, nr2 := 0xF0 }
        sweep := { State.reset.apu.sweep with nr10 := 0x11 } }.write .nr14 0x87).readNr52 = 0xF0 := by
  decide
theorem test_illegal_is_fatal :
    step (Tests.placed [0xD3] fun c => c) = .fault (.undefinedOpcode 0xD3 0x0100) := rfl
theorem test_vblank_dispatch :
    Tests.shows (step { State.reset with cpu := { State.reset.cpu with ime := true }, irq := { pending := 1, enable := 1 } })
      (fun t => decide (t.cpu.pc = 0x0040 ∧ t.cpu.sp = 0xFFFC ∧ t.busRead 0xFFFD = 0x01 ∧ t.busRead 0xFFFC = 0x00 ∧
        t.cpu.ime = false ∧ t.irq.pending = 0 ∧ t.sched.cycle = 20)) = true := by
  decide
theorem test_halted_jumps_to_the_first_event :
    Tests.shows (step { State.reset with cpu := { State.reset.cpu with halted := true }, irq := { pending := 0, enable := 0 } })
      (fun t => decide (t.sched.cycle = 80 ∧ t.ppu.phase = .m3 ∧ t.cpu.pc = 0x0100)) = true := by
  decide


/-! ## Witnesses: states and operands that meet the hypotheses of each obligation, clause by clause -/

/-- What is shown of a next state is true of one. -/
theorem Tests.next_of_shows {r : StepResult} {p : State → Bool} (h : Tests.shows r p = true) :
    ∃ t, r = .next t ∧ p t = true := by
  cases r with
  | next t => exact ⟨t, rfl, h⟩
  | fault f => exact absurd h (by simp [Tests.shows])
  | refused x => exact absurd h (by simp [Tests.shows])

theorem test_witness_EncodeDecodeRoundTrip :
    (Instr.illegal 0xD3).wf = true ∧ (Instr.illegal 0xD3 = .prefixCB → [0x12] = ([] : List Byte)) ∧
      Instr.prefixCB.wf = true ∧ (Instr.prefixCB = .prefixCB → [] = ([] : List Byte)) := by decide

theorem test_witness_DecodeEncodeRoundTrip :
    decode [0xC3, 0xFF, 0xFF, 0x00] = .ok (.jp_n16 0xFFFF, [0x00]) ∧ decode [0xCB] = .ok (.prefixCB, []) := by decide

/-- Two states that run `INC A`: one that fetches, one that is woken with IME 0. -/
theorem test_witness_StepRunsInstruction :
    let s := Tests.placed [0x3C] fun c => c
    let w := { s with cpu := { s.cpu with halted := true }, irq := { pending := 1, enable := 1 } }
    (s.fault = none ∧ s.serviceable = 0 ∧ s.cpu.halted = false ∧ w.fault = none ∧ w.serviceable ≠ 0 ∧ w.cpu.ime = false) ∧
    decode [s.busRead s.cpu.pc, s.busRead (s.cpu.pc + 1), s.busRead (s.cpu.pc + 2)] = .ok (.inc_A, [0x00, 0x00]) ∧
    decode [w.busRead w.cpu.pc, w.busRead (w.cpu.pc + 1), w.busRead (w.cpu.pc + 2)] = .ok (.inc_A, [0x00, 0x00]) ∧
    (∃ t, exec .inc_A { s with cpu := { s.cpu with halted := false, pc := 0x0101 } } = .next t ∧
      decide (t.fault = none ∧ (t.settleIme s.cpu.imePending).commit.fault = none) = true) ∧
    (∃ t, exec .inc_A { w with cpu := { w.cpu with halted := false, pc := 0x0101 } } = .next t ∧
      decide (t.fault = none ∧ (t.settleIme w.cpu.imePending).commit.fault = none) = true) :=
  ⟨by decide, by decide, by decide, Tests.next_of_shows (by decide), Tests.next_of_shows (by decide)⟩

theorem test_witness_IllegalOpcodeIsFatal :
    let s := Tests.placed [0xFD] fun c => c
    (s.fault = none ∧ s.serviceable = 0 ∧ s.cpu.halted = false ∧
      s.busRead s.cpu.pc ∈ ([0xD3, 0xDB, 0xDD, 0xE3, 0xE4, 0xEB, 0xEC, 0xED, 0xF4, 0xFC, 0xFD] : List Byte)) ∧
    ({ s with fault := some .commitUnbounded } : State).fault = some .commitUnbounded := by decide

theorem test_witness_WordLoads :
    (0x34 : Byte) = (0x1234 : Word).extractLsb' 0 8 ∧ (0x12 : Byte) = (0x1234 : Word).extractLsb' 8 8 := by decide

theorem test_witness_IncrementDecrement :
    (0xD8 : Byte) = State.reset.reg .e ∧
      (0x00 : Byte) = State.reset.busRead (Word.ofBytes State.reset.cpu.h State.reset.cpu.l) := by decide

theorem test_witness_BitOperations :
    (0x01 : Byte) = State.reset.reg .a ∧
      (0x00 : Byte) = State.reset.busRead (Word.ofBytes State.reset.cpu.h State.reset.cpu.l) := by decide

theorem test_witness_WordArithmetic :
    (0xFFFE : Word) = State.reset.cpu.sp ∧
      (0x014B : Word) = Word.ofBytes State.reset.cpu.h State.reset.cpu.l + 0xFFFE := by decide

theorem test_witness_Jumps :
    (0xFF : Byte) = (0xFFFF : Word).extractLsb' 0 8 ∧ (0xFF : Byte) = (0xFFFF : Word).extractLsb' 8 8 ∧
      conditionMet .z State.reset ∧ ¬ conditionMet .nz State.reset :=
  ⟨by decide, by decide, rfl, (nomatch ·)⟩

theorem test_witness_Returns :
    (0x0000 : Word) = Word.ofBytes (State.reset.busRead (State.reset.cpu.sp + 1)) (State.reset.busRead State.reset.cpu.sp) ∧
      conditionMet .c State.reset ∧ ¬ conditionMet .nc State.reset :=
  ⟨by decide, rfl, (nomatch ·)⟩

theorem test_witness_AccumulatorTransfers :
    ∃ (u d : Word) (t : State), u = Word.ofBytes State.reset.cpu.h State.reset.cpu.l + 1 ∧
      d = Word.ofBytes State.reset.cpu.h State.reset.cpu.l - 1 ∧
      t = State.reset.busWrite (Word.ofBytes State.reset.cpu.h State.reset.cpu.l) State.reset.cpu.a ∧ u = 0x014E ∧ d = 0x014C :=
  ⟨_, _, _, rfl, rfl, rfl, by decide, by decide⟩

/-- The pushed bytes of each pair, AF with its flag byte 0xB0. -/
theorem test_witness_PushAndPop :
    let s := State.reset
    (0x00 = s.cpu.b ∧ 0x13 = s.cpu.c) ∧ (0x00 = s.cpu.d ∧ 0xD8 = s.cpu.e) ∧ (0x01 = s.cpu.h ∧ 0x4D = s.cpu.l) ∧
    (0x01 = s.cpu.a ∧ 0xB0 = BitVec.ofBool s.cpu.f.z ++ BitVec.ofBool s.cpu.f.n ++ BitVec.ofBool s.cpu.f.h ++
      BitVec.ofBool s.cpu.f.c ++ (0 : BitVec 4)) ∧
    (∃ t u : State, t = { s with cpu := { s.cpu with sp := s.cpu.sp - 1 } }.busWrite (s.cpu.sp - 1) 0x01 ∧
      u = { t with cpu := { t.cpu with sp := s.cpu.sp - 2 } }.busWrite (s.cpu.sp - 2) 0xB0) ∧
    (∃ lo hi : Byte, lo = s.busRead s.cpu.sp ∧ hi = s.busRead (s.cpu.sp + 1)) :=
  ⟨by decide, by decide, by decide, by decide, ⟨_, _, rfl, rfl⟩, ⟨_, _, rfl, rfl⟩⟩

theorem test_witness_StackPointerPlus :
    let s := { State.reset with cpu := { State.reset.cpu with sp := 0x00F8 } }
    (0x0100 : Word) = s.cpu.sp + (0x08 : Byte).signExtend 16 ∧
    ({ z := false, n := false, h := true, c := true } : Flags) =
      { z := false, n := false, h := decide (0x0F < (s.cpu.sp &&& 0x0F).toNat + ((0x08 : Byte) &&& 0x0F).toNat),
        c := decide (0xFF < (s.cpu.sp &&& 0xFF).toNat + (0x08 : Byte).toNat) } := by decide

/-- The three forms of an operand, which the statements of all eight operations share. -/
theorem test_witness_alu_operands :
    aluOperand .add State.reset .add_A_E 0xD8 1 ∧ aluOperand .adc State.reset .adc_A_atHL 0x00 2 ∧
      aluOperand .sub State.reset (.sub_n8 0xFF) 0xFF 2 :=
  ⟨.inl ⟨.e, rfl, by decide, rfl⟩, .inr (.inl ⟨rfl, by decide, rfl⟩), .inr (.inr ⟨rfl, rfl⟩)⟩

theorem test_witness_AddWithCarry :
    (aluOperand .add State.reset (.add_A_n8 0xFF) 0xFF 2 ∧ (0x00 : Byte) = BitVec.ofNat 8 (State.reset.cpu.a.toNat + 0xFF + 0)) ∧
    (aluOperand .adc State.reset (.adc_A_n8 0xFF) 0xFF 2 ∧ 1 = State.reset.cpu.f.c.toNat ∧
      (0x01 : Byte) = BitVec.ofNat 8 (State.reset.cpu.a.toNat + 0xFF + 1)) :=
  ⟨⟨.inr (.inr ⟨rfl, rfl⟩), by decide⟩, .inr (.inr ⟨rfl, rfl⟩), by decide, by decide⟩

theorem test_witness_SubtractWithBorrow :
    (aluOperand .sub State.reset .sub_A 0x01 1 ∧ (0x00 : Byte) = BitVec.ofInt 8 ((State.reset.cpu.a.toNat : Int) - 1 - 0)) ∧
    (aluOperand .sbc State.reset (.sbc_A_n8 0xFF) 0xFF 2 ∧ 1 = State.reset.cpu.f.c.toNat ∧
      (0x01 : Byte) = BitVec.ofInt 8 ((State.reset.cpu.a.toNat : Int) - 255 - 1)) ∧
    (aluOperand .cp State.reset .cp_atHL 0x00 2 ∧ (0x01 : Byte) = BitVec.ofInt 8 ((State.reset.cpu.a.toNat : Int) - 0 - 0)) :=
  ⟨⟨.inl ⟨.a, rfl, by decide, rfl⟩, by decide⟩, ⟨.inr (.inr ⟨rfl, rfl⟩), by decide, by decide⟩,
    .inr (.inl ⟨rfl, by decide, rfl⟩), by decide⟩

theorem test_witness_BitwiseLogic :
    (aluOperand .and State.reset .and_A 0x01 1 ∧ (0x01 : Byte) = State.reset.cpu.a &&& 0x01) ∧
    (aluOperand .xor State.reset .xor_A 0x01 1 ∧ (0x00 : Byte) = State.reset.cpu.a ^^^ 0x01) ∧
    (aluOperand .or State.reset (.or_n8 0x50) 0x50 2 ∧ (0x51 : Byte) = State.reset.cpu.a ||| 0x50) :=
  ⟨⟨.inl ⟨.a, rfl, by decide, rfl⟩, by decide⟩, ⟨.inl ⟨.a, rfl, by decide, rfl⟩, by decide⟩, .inr (.inr ⟨rfl, rfl⟩), by decide⟩

/-- After an addition and after a subtraction, both corrections each time. -/
theorem test_witness_AccumulatorAdjustments :
    let c : Cpu := { State.reset.cpu with a := 0x9A, f := Tests.flags 0x00 }
    let d : Cpu := { State.reset.cpu with a := 0x9A, f := Tests.flags 0x70 }
    (true = (c.f.c || (!c.f.n && decide (0x99 < c.a.toNat))) ∧
      true = (c.f.h || (!c.f.n && decide (0x09 < (c.a &&& 0x0F).toNat))) ∧ (0x00 : Byte) = c.a + 0x60 + 0x06) ∧
    (true = (d.f.c || (!d.f.n && decide (0x99 < d.a.toNat))) ∧
      true = (d.f.h || (!d.f.n && decide (0x09 < (d.a &&& 0x0F).toNat))) ∧ (0x34 : Byte) = d.a - 0x60 - 0x06) := by decide

theorem test_witness_RotatesAndShifts :
    rotated .rlc true 0x85 0x0B true ∧ rotated .rrc false 0x01 0x80 true ∧ rotated .rl true 0x80 0x01 true ∧
      rotated .rr true 0x8A 0xC5 false ∧ rotated .sla false 0x80 0x00 true ∧ rotated .sra false 0x8A 0xC5 false ∧
      rotated .swap true 0xF1 0x1F false ∧ rotated .srl false 0x01 0x00 true ∧
      (0x85 : Byte) = { State.reset with cpu := { State.reset.cpu with b := 0x85 } }.reg .b ∧
      (0x00 : Byte) = State.reset.busRead (Word.ofBytes State.reset.cpu.h State.reset.cpu.l) :=
  ⟨⟨rfl, rfl⟩, ⟨rfl, rfl⟩, ⟨rfl, rfl⟩, ⟨rfl, rfl⟩, ⟨rfl, rfl⟩, ⟨rfl, rfl⟩, ⟨rfl, rfl⟩, ⟨rfl, rfl⟩, by decide, by decide⟩

/-- Each condition of jumps, calls and returns met and not met: Z and C are set after reset, and clear in the other state. -/
theorem test_witness_conditions :
    let s := { State.reset with cpu := { State.reset.cpu with f := Tests.flags 0x00 } }
    (conditionMet .nz s ∧ conditionMet .nc s ∧ conditionMet .z State.reset ∧ conditionMet .c State.reset) ∧
      ¬ conditionMet .nz State.reset ∧ ¬ conditionMet .nc State.reset ∧ ¬ conditionMet .z s ∧ ¬ conditionMet .c s :=
  ⟨⟨rfl, rfl, rfl, rfl⟩, (nomatch ·), (nomatch ·), (nomatch ·), (nomatch ·)⟩

theorem test_witness_CallsAndRestarts :
    let s := { State.reset with cpu := { State.reset.cpu with sp := 0xD000, pc := 0x0103 } }
    ∃ (lo hi : Byte) (t u : State), lo = (0x1234 : Word).extractLsb' 0 8 ∧ hi = (0x1234 : Word).extractLsb' 8 8 ∧
      t = { s with cpu := { s.cpu with sp := s.cpu.sp - 1 } }.busWrite (s.cpu.sp - 1) (s.cpu.pc.extractLsb' 8 8) ∧
      u = { t with cpu := { t.cpu with sp := s.cpu.sp - 2 } }.busWrite (s.cpu.sp - 2) (s.cpu.pc.extractLsb' 0 8) ∧
      conditionMet .z s ∧ ¬ conditionMet .nz s :=
  ⟨_, _, _, _, rfl, rfl, rfl, rfl, rfl, (nomatch ·)⟩

theorem test_witness_CpuControl :
    let on := { State.reset with cpu := { State.reset.cpu with ime := true } }
    let now := { State.reset with cfg := { State.reset.cfg with eiDelay := false } }
    let armed := { Tests.cgb with cpu := { Tests.cgb.cpu with speedArmed := true } }
    (State.reset.cfg.eiDelay = true ∧ State.reset.cpu.ime = false) ∧ (on.cfg.eiDelay = true ∧ on.cpu.ime = true) ∧
      now.cfg.eiDelay = false ∧ (armed.cfg.model = .cgb ∧ armed.cpu.speedArmed = true) ∧ State.reset.cfg.model = .dmg ∧
      Tests.cgb.cpu.speedArmed = false := by decide

/-- A state of each blocking: Mode 2 after reset, and Mode 3. -/
def Tests.blocked : State := Tests.atLine .m3 0

/-- A place of each memory, those of VRAM and OAM not blocked, and a memory in canonical form. -/
theorem test_witness_StorageWrites :
    State.reset.MemWf ∧ State.reset.DmgInv ∧ State.reset.cpuBlocked = false ∧ State.reset.region 0x8000 = .vram 0 ∧
      State.reset.region 0xFE9F = .oam 159 ∧ State.reset.region 0xFDFF = .wram 0x1DFF ∧
      State.reset.region 0xDDFF = .wram 0x1DFF ∧ State.reset.region 0xFFFE = .hram 126 ∧
      Tests.cgb.MemWf ∧ Tests.cgb.DmgInv ∧ Tests.cgb.region 0xD000 = .wram 4096 ∧
      Memory.wf 160 [(0, 16), (159, 1)] = true := by decide

theorem test_witness_AddressMap :
    let s := State.reset
    s.mems.bootMapped = false ∧ s.region 0x0000 = .cart 0 ∧ s.region 0x7FFF = .cart 0x7FFF ∧ s.region 0xA000 = .cart 0xA000 ∧
      s.region 0xBFFF = .cart 0xBFFF ∧ s.region 0x9FFF = .vram 8191 ∧ s.region 0xC000 = .wram 0 ∧ s.region 0xCFFF = .wram 4095 ∧
      s.region 0xD000 = .wram 4096 ∧ s.region 0xDFFF = .wram 8191 ∧ s.region 0xE000 = .wram 0 ∧ s.region 0xFDFF = .wram 0x1DFF ∧
      s.region 0xFE00 = .oam 0 ∧ s.region 0xFEA0 = .unmapped ∧ s.region 0xFEFF = .unmapped ∧ s.region 0xFF80 = .hram 0 ∧
      s.region 0xFFFF = .ie ∧ s.cfg.model = .dmg ∧ s.region 0xFF70 = .unmapped := by decide

theorem test_witness_FillsAndDroppedWrites :
    State.reset.region 0xFEA0 = .unmapped ∧ Tests.blocked.region 0x9FFF = .vram 8191 ∧ Tests.blocked.region 0xFE00 = .oam 0 ∧
      Tests.blocked.ppu.lcdc.getLsbD 7 = true ∧ Tests.blocked.ppu.mode = .transfer := by decide

theorem test_witness_RegisterFormsKeepMemory :
    (∃ t, exec (Form.aluM .add).instr State.reset = .next t) ∧ (0xFF05 : Word) ≠ 0xFF04 ∧
      (match Form.aluM .add with
        | .ldMR _ | .ldMN _ | .ldBCA | .ldDEA | .ldNNA _ | .ldhCA | .ldhNA _ | .ldHLdA | .ldHLiA | .ldNNSP _ | .push _ | .incM
        | .decM | .rotM _ | .resM _ | .setM _ | .call _ | .callCc _ _ | .rst _ | .stop _ | .prefixCB => False
        | _ => True) :=
  ⟨⟨_, rfl⟩, by decide, trivial⟩

theorem test_witness_ControlBitsChangeOnlyBy :
    (∃ t, exec (.ldh_atN8_A 0x91) State.reset = .next t) ∧ Instr.ldh_atN8_A 0x91 ≠ .ei ∧ Instr.ldh_atN8_A 0x91 ≠ .di ∧
      Instr.ldh_atN8_A 0x91 ≠ .reti ∧ Instr.ldh_atN8_A 0x91 ≠ .halt ∧ (∀ n, Instr.ldh_atN8_A 0x91 ≠ .stop n) :=
  ⟨⟨_, rfl⟩, by decide, by decide, by decide, by decide, fun _ h => nomatch h⟩

/-- The highest and the lowest priority alone. -/
theorem test_witness_InterruptDispatch :
    let s (k : BitVec 5) := { State.reset with cpu := { State.reset.cpu with ime := true }, irq := { pending := k, enable := k } }
    ((s 0x1F).cpu.ime = true ∧ (s 0x1F).irq.enable.getLsbD 0 = true ∧ (s 0x1F).irq.pending.getLsbD 0 = true) ∧
    ((s 0x10).cpu.ime = true ∧ 4 < 5 ∧ (s 0x10).irq.enable.getLsbD 4 = true ∧ (s 0x10).irq.pending.getLsbD 4 = true ∧
      ∀ j, j < 4 → (s 0x10).irq.enable.getLsbD j = false ∨ (s 0x10).irq.pending.getLsbD j = false) := by decide

theorem test_witness_HaltedFastForward :
    let s := { State.reset with cpu := { State.reset.cpu with halted := true } }
    s.cpu.halted = true ∧ s.irq.enable &&& s.irq.pending = 0 ∧
      s.sched.queue = (.ppu, 80) :: [(.apuSample, 128), (.apuFs, 8192)] ∧ s.SchedInv := by decide

theorem test_witness_ScheduleAndCancel :
    (State.reset.isPending .oamDma = false ∧ dueAscending State.reset.sched.queue = true) ∧
      State.reset.isPending .ppu = true ∧ State.reset.fault = none := by decide

/-- A commit that fires an event. -/
theorem test_witness_CommitLeavesNothingDue :
    let s := { State.reset with sched := { State.reset.sched with staged := 80 } }
    s.fault = none ∧ dueAscending s.sched.queue = true ∧ s.commit.fault = none ∧ s.commit.ppu.phase = .m3 := by decide

theorem test_witness_TimerRegistersAndEvents :
    let s := { Tests.quiet with timer := { Tests.quiet.timer with tima := 0xFF, tac := 5 } }
    (State.reset.cfg.Admissible ∧ State.reset.fault = none ∧
      1024 = [1024, 16, 64, 256].getD (State.reset.timer.tac &&& 3).toNat 0 ∧
      16 = [1024, 16, 64, 256].getD ((0x05 : Byte) &&& 3).toNat 0 ∧ (0x05 : Byte).getLsbD 2 = true ∧
      (0x03 : Byte).getLsbD 2 = false) ∧
    ((100 : Int) = (s.sched.cycle : Int) - 0 ∧ s.sched.staged = 0 ∧ s.isPending .timerInc = false ∧
      s.isPending .timerReload = false ∧ 16 = [1024, 16, 64, 256].getD (s.timer.tac &&& 3).toNat 0) := by decide

theorem test_witness_RegistersAndDevices :
    State.reset.cfg.Admissible ∧ Tests.cgb.cfg.Admissible ∧ Tests.cgb.cfg.model = .cgb ∧
      State.reset.region 0x0000 = .cart 0 ∧ State.reset.region 0x7FFF = .cart 0x7FFF ∧
      0x7FFF < State.reset.cart.romSize ∧ State.reset.region 0xBFFF = .cart 0xBFFF ∧ State.reset.cart.kind = .plain ∧
      State.reset.cart.info.ramSize = 0 := by decide

/-- The level of the line: 0 after reset, 1 with the Mode 2 source enabled. -/
theorem test_witness_StatInterruptOnRise :
    let p := { State.reset.ppu with statEn := 4 }
    State.reset.cfg.Admissible ∧
    true = (p.lcdc.getLsbD 7 && ((p.statEn.getLsbD 0 && decide (p.mode = .hblank)) ||
      (p.statEn.getLsbD 1 && decide (p.mode = .vblank)) || (p.statEn.getLsbD 2 && decide (p.mode = .oamScan)) ||
      (p.statEn.getLsbD 3 && decide (p.ly = p.lyc)))) := by decide

theorem test_witness_DisplayOffAndOn :
    let off := { State.reset with ppu := { State.reset.ppu with lcdc := 0x11, phase := .off, mode := .hblank } }
    State.reset.cfg.Admissible ∧ [(.apuSample, 128), (.apuFs, 8192)] = dequeue .ppu State.reset.sched.queue ∧
      State.reset.ppu.lcdc.getLsbD 7 = (0x80 : Byte).getLsbD 7 ∧ State.reset.ppu.lcdc.getLsbD 7 = true ∧
      (0x7F : Byte).getLsbD 7 = false ∧ off.ppu.lcdc.getLsbD 7 = false := by decide

theorem test_witness_PaletteAccess : Tests.cgb.cfg.Admissible ∧ Tests.cgb.cfg.model = .cgb ∧ Tests.cgb.MemWf := by decide

/-- One state for each clause, the lines at the clauses' edges. -/
theorem test_witness_LineStateMachine :
    let off := Tests.atLine .off 0
    let m2 := Tests.atLine .m2 143
    let m3 := Tests.atLine .m3 0
    let last := Tests.atLine .m0 143
    let line := Tests.atLine .m0 142
    let wrap := Tests.atLine .m1 153
    let blank := Tests.atLine .m1 152
    (∀ s ∈ [off, m2, m3, last, line, wrap, blank],
      (100 : Int) = (s.sched.cycle : Int) - 0 ∧ s.sched.staged = 0 ∧ s.fault = none ∧ s.isPending .ppu = false) ∧
    off.ppu.phase = .off ∧ m2.ppu.phase = .m2 ∧ m3.ppu.phase = .m3 ∧ (last.ppu.phase = .m0 ∧ last.ppu.ly = 143) ∧
      (line.ppu.phase = .m0 ∧ line.ppu.ly ≠ 143) ∧ (wrap.ppu.phase = .m1 ∧ wrap.ppu.ly = 153) ∧
      (blank.ppu.phase = .m1 ∧ blank.ppu.ly ≠ 153) := by decide

theorem test_witness_OamScanSelects :
    let s := { State.reset with mems := { State.reset.mems with oam := [(0, 16), (4, 24)] } }
    s.oamScan 0 = [0] ∧ s.oamScan 8 = [1] ∧ 0 < 40 ∧ (s.mems.oam.read (4 * 0)).toNat ≤ 0 + 16 ∧
      0 + 16 < (s.mems.oam.read (4 * 0)).toNat + (if s.ppu.lcdc.getLsbD 2 then 16 else 8) := by decide

theorem test_witness_RenderLineFrame : State.reset.MemWf ∧ 143 < 144 ∧ 159 < 160 := by decide

theorem test_witness_OamDmaCopies : State.reset.cfg.Admissible ∧ State.reset.MemWf := by decide

theorem test_witness_VramDmaTransfers :
    let busy n := { Tests.cgb with dma := { Tests.cgb.dma with mode := .hblank, active := true, complete := false, remaining := n } }
    (Tests.cgb.cfg.Admissible ∧ Tests.cgb.cfg.model = .cgb ∧ Tests.cgb.dma.active = false ∧ (0x7F : Byte).getLsbD 7 = false ∧
      2048 = (((0x7F : Byte) &&& 0x7F).toNat + 1) * 16) ∧
    ((busy 16).cfg.Admissible ∧ (busy 16).cfg.model = .cgb ∧ (busy 16).dma.active = true ∧ (0x80 : Byte).getLsbD 7 = true ∧
      (busy 16).dma.remaining ≤ 16 ∧ 16 < (busy 32).dma.remaining ∧ (busy 32).dma.active = true) ∧
    State.reset.cfg.model = .dmg := by decide

/-- A write with the trigger bit and one without, the shift 0 and not 0, the sweep up and down. -/
theorem test_witness_ChannelRegisters :
    let a := { State.reset.apu with sweep := { State.reset.apu.sweep with nr10 := 0x11 } }
    let down := { State.reset.apu with sweep := { State.reset.apu.sweep with nr10 := 0x19 } }
    State.reset.cfg.Admissible ∧ 15 < 16 ∧ State.reset.apu.power = true ∧ a.power = true ∧ down.power = true ∧
      0 = State.reset.apu.sweep.nr10.toNat % 8 ∧ 1 = (a.sweep.nr10.toNat / 16) % 8 ∧ 1 = a.sweep.nr10.toNat % 8 ∧
      a.sweep.nr10.getLsbD 3 = false ∧ down.sweep.nr10.getLsbD 3 = true ∧ (0x80 : Byte).getLsbD 7 = true ∧
      (0x7F : Byte).getLsbD 7 = false := by decide

theorem test_witness_CatchUpIsStepping :
    0 < State.reset.apu.ch1.timer ∧ 0 < State.reset.apu.ch2.timer ∧ 0 < State.reset.apu.ch3.timer ∧
      0 < State.reset.apu.ch4.timer := by decide

theorem test_witness_FrameSequencer :
    let off := { Tests.quiet with apu := { Tests.quiet.apu with power := false } }
    let fsAt k := { Tests.quiet with apu := { Tests.quiet.apu with fsStep := k } }
    (off.sched.staged = 0 ∧ off.isPending .apuFs = false ∧ off.apu.power = false) ∧
    (∀ k : BitVec 3, (fsAt k).sched.staged = 0 ∧ (fsAt k).isPending .apuFs = false ∧ (fsAt k).apu.power = true ∧
      ((fsAt k).apu.catchUp (fsAt k).mems.wave (((fsAt k).sched.cycle : Int) - 0)).fsStep = k) := by decide

theorem test_witness_LengthClockAndSweepCalc :
    let a := { State.reset.apu with sweep := { shadow := 2047, timer := 1, enabled := true, nr10 := 0x11 } }
    1023 = a.sweep.shadow.toNat / 2 ^ (a.sweep.nr10.toNat % 8) ∧ a.sweepNew = 3070 ∧ 2047 < a.sweepNew ∧
      (0x19 : BitVec 7).getLsbD 3 = true := by decide

/-- The overflow at once, the overflow in the second check, none, and the difference. -/
theorem test_witness_SweepTick :
    let sw (shadow : BitVec 11) (nr10 : BitVec 7) : Sweep := { shadow := shadow, timer := 1, enabled := true, nr10 := nr10 }
    let new (s : Sweep) : Nat := if s.nr10.getLsbD 3 then s.shadow.toNat - s.shadow.toNat / 2 ^ (s.nr10.toNat % 8)
      else s.shadow.toNat + s.shadow.toNat / 2 ^ (s.nr10.toNat % 8)
    (∀ s ∈ [sw 2047 0x11, sw 1024 0x11, sw 256 0x11, sw 1024 0x19],
      s.timer ≤ 1 ∧ s.enabled = true ∧ (s.nr10.toNat / 16) % 8 ≠ 0 ∧ s.nr10.toNat % 8 ≠ 0) ∧
    2047 < new (sw 2047 0x11) ∧
    (new (sw 1024 0x11) ≤ 2047 ∧ 2047 < new (sw 1024 0x11) + new (sw 1024 0x11) / 2 ^ 1) ∧
    (new (sw 256 0x11) ≤ 2047 ∧ new (sw 256 0x11) + new (sw 256 0x11) / 2 ^ 1 ≤ 2047) ∧
    (new (sw 1024 0x19) ≤ 2047 ∧ (sw 1024 0x19).nr10.getLsbD 3 = true) := by decide

theorem test_witness_ApuPower :
    let off := { State.reset.apu with power := false }
    State.reset.cfg.Admissible ∧
    (off.power = false ∧ ApuReg.nr12 ≠ .nr11 ∧ ApuReg.nr12 ≠ .nr21 ∧ ApuReg.nr12 ≠ .nr31 ∧ ApuReg.nr12 ≠ .nr41) ∧
      (State.reset.apu.power = true ∧ (0x7F : Byte).getLsbD 7 = false) ∧ (off.power = false ∧ (0x80 : Byte).getLsbD 7 = true) ∧
      State.reset.apu.power = (0x80 : Byte).getLsbD 7 := by
  decide

/-- A faulted state, a frame that ends in one iteration, a state without a fault, two states of one variant with one cartridge
and with two, and a save state of the other variant. -/
theorem test_witness_HostProtocol :
    let s := { Tests.placed [0x00] (fun c => c) with
      ppu := { State.reset.ppu with lcdc := 0x11, phase := .off, mode := .hblank }
      sched := { State.reset.sched with queue := [(.ppu, 4), (.apuSample, 128), (.apuFs, 8192)] } }
    ({ State.reset with fault := some .commitUnbounded } : State).fault = some .commitUnbounded ∧
      (∃ x, runFrame 1 (.ready s) = (x, .ok ())) ∧ s.fault = none ∧
      (s.cfg = State.reset.cfg ∧ { s.cart with hidden := s.cart.hidden } = s.cart ∧ s.MemWf) ∧
      ({ State.reset with cart := Tests.cgb.cart } : State).cfg.model = s.cfg.model ∧
      Tests.cgb.serialize.model ≠ State.reset.cfg.model :=
  ⟨rfl, ⟨_, rfl⟩, rfl, ⟨rfl, rfl, by decide⟩, rfl, fun h => nomatch h⟩

theorem test_witness_ResetMeetsInvariant :
    (defaultConfig .dmg).Admissible ∧ (defaultConfig .cgb).Admissible ∧ Memory.wf Cart.blank.romSize Cart.blank.rom = true := by decide

/-- A state that meets the invariant and steps, and one that meets it and stops. -/
theorem test_witness_StepKeeps :
    (State.reset.Inv ∧ ∃ t, step State.reset = .next t ∧ decide t.DmgInv = true) ∧
      (Tests.placed [0xD3] fun c => c).Inv ∧ State.reset.DmgInv :=
  ⟨⟨⟨by decide, by decide, by decide, by decide, by decide, by decide, by decide, by decide⟩, Tests.next_of_shows (by decide)⟩,
    ⟨by decide, by decide, by decide, by decide, by decide, by decide, by decide, by decide⟩, by decide⟩
end

/-! PROOFS. The load and stack family (42_cpu_load.md): rules for words and operand bytes, what the shared operations of the
family do as updates of the registers they write, and the statements about its instructions. -/

namespace Sys2Proof.Machine

/-! ## Words and their bytes -/

/-- A word is its two bytes, high byte first (R10, R26). -/
@[simp] theorem ofBytes_hi_lo (w : Word) : Word.ofBytes w.hi w.lo = w :=
  (BitVec.extractLsb'_append_extractLsb'_eq_extractLsb' (by decide)).trans BitVec.extractLsb'_eq_self

/-- An address of the high page is the offset above 0xFF00 (R221 to R224). -/
theorem highPage_eq (n : Byte) : highPage n = 0xFF00 + n.zeroExtend 16 := by
  have lt := n.isLt
  have append : (highPage n).toNat = 0xFF00 + n.toNat :=
    (BitVec.toNat_append ..).trans (Nat.shiftLeft_add_eq_or_of_lt lt 0xFF).symm
  have wide : (n.zeroExtend 16).toNat = n.toNat := BitVec.toNat_setWidth_of_le (by decide)
  have base : (0xFF00 : Word).toNat = 0xFF00 := rfl
  apply BitVec.eq_of_toNat_eq
  rw [append, BitVec.toNat_add, base, wide]
  omega

/-! ## Encodings with operand bytes -/

/-- A row whose operand is a word is encoded by its opcode and the word's bytes, low byte first (R142, R149). -/
theorem decodesTo_n16 {op : Byte} {f : Word → Form} (nn : Word)
    (h : decodeOpcode op [nn.lo, nn.hi] = fmtN16 op f [nn.lo, nn.hi]) : decodesTo [op, nn.lo, nn.hi] (f nn) := by
  simp only [decodesTo, decode, decodeForm, h, fmtN16, ofBytes_hi_lo]

/-- `LD r,r'` by its two register fields (R210). -/
theorem decodesTo_ldRR (dst src : Reg8) :
    decodesTo [BitVec.ofNat 8 (0x40 + 8 * dst.field + src.field)] (.ldRR dst src) := by
  cases dst <;> cases src <;> rfl

/-- `LD r,n` by its register field (R211). -/
theorem decodesTo_ldRN (dst : Reg8) (n : Byte) : decodesTo [BitVec.ofNat 8 (0x06 + 8 * dst.field), n] (.ldRN dst n) := by
  cases dst <;> rfl

/-- `LD r,(HL)` by its register field (R212). -/
theorem decodesTo_ldRM (dst : Reg8) : decodesTo [BitVec.ofNat 8 (0x46 + 8 * dst.field)] (.ldRM dst) := by
  cases dst <;> rfl

/-- `LD (HL),r` by its register field (R213). -/
theorem decodesTo_ldMR (src : Reg8) : decodesTo [BitVec.ofNat 8 (0x70 + src.field)] (.ldMR src) := by
  cases src <;> rfl

/-- `LD rr,nn` by its pair field (R229). -/
theorem decodesTo_ldPairNN (p : Pair) (nn : Word) :
    decodesTo [BitVec.ofNat 8 (0x01 + 16 * p.field), nn.lo, nn.hi] (.ldPairNN p nn) :=
  decodesTo_n16 nn (by cases p <;> rfl)

/-- `PUSH rr` by its pair field (R232). -/
theorem decodesTo_push (q : StackPair) : decodesTo [BitVec.ofNat 8 (0xC5 + 16 * q.field)] (.push q) := by
  cases q <;> rfl

/-- `POP rr` by its pair field (R233). -/
theorem decodesTo_pop (q : StackPair) : decodesTo [BitVec.ofNat 8 (0xC1 + 16 * q.field)] (.pop q) := by
  cases q <;> rfl

/-! ## What the shared operations do -/

/-- Moving down by one is adding 0xFFFF modulo 65536 (R225, R226). -/
theorem word_add_allOnes (w : Word) : w + 0xFFFF = w - 1 := (BitVec.sub_eq_add_neg w 1).symm

/-- SP plus a signed byte, with the flags of the unsigned sum of the low bytes by masks (R234, R260). -/
theorem spPlus_eq (sp : Word) (e : Byte) :
    spPlus sp e =
      (sp + e.signExtend 16,
        { z := false, n := false, h := decide (0x0F < (sp &&& 0x0F).toNat + (e &&& 0x0F).toNat),
          c := decide (0xFF < (sp &&& 0xFF).toNat + e.toNat) }) := by
  obtain ⟨-, low8, low4⟩ := word_and_low sp
  simp only [spPlus, exceeds_eq, nibble_eq, low8, low4]

/-- A push of two bytes: the high byte one below SP, the low byte two below (R11, R232). -/
theorem push16_ofBytes (s : State) (hi lo : Byte) :
    s.push16 (Word.ofBytes hi lo) =
      (((s.setSp (s.cpu.sp - 1)).busWrite (s.cpu.sp - 1) hi).setSp (s.cpu.sp - 2)).busWrite (s.cpu.sp - 2) lo := by
  have two : s.cpu.sp - 1 - 1 = s.cpu.sp - 2 := BitVec.sub_sub ..
  rw [State.push16_eq, ofBytes_hi, ofBytes_lo, two]

/-- `PUSH rr` pushes the pair (R232). -/
theorem exec_push (q : StackPair) (s : State) :
    exec (Form.push q).instr s = .next ((s.push16 (s.stackPair q)).charge 4) :=
  exec_instr (.push q) s nofun

/-- `POP rr` writes the pair with the byte at SP + 1 over the byte at SP, once SP is two higher (R11, R233). -/
theorem exec_pop (q : StackPair) (s : State) :
    exec (Form.pop q).instr s =
      .next (((s.setSp (s.cpu.sp + 2)).setStackPair q
        (Word.ofBytes (s.busRead (s.cpu.sp + 1)) (s.busRead s.cpu.sp))).charge 3) :=
  exec_instr (.pop q) s nofun

/-- A pair of `POP` made of two bytes gets the high byte and the low byte; F keeps the high nibble only (R27, R145, R233). -/
theorem setStackPair_ofBytes (s : State) (hi lo : Byte) :
    s.setStackPair .bc (Word.ofBytes hi lo) = { s with cpu := { s.cpu with b := hi, c := lo } } ∧
    s.setStackPair .de (Word.ofBytes hi lo) = { s with cpu := { s.cpu with d := hi, e := lo } } ∧
    s.setStackPair .hl (Word.ofBytes hi lo) = { s with cpu := { s.cpu with h := hi, l := lo } } ∧
    s.setStackPair .af (Word.ofBytes hi lo) = { s with cpu := { s.cpu with a := hi, f := Flags.ofByte lo } } := by
  simp only [State.setStackPair, State.setPair, State.setHl, State.setCpu, ofBytes_hi, ofBytes_lo, and_self]

/-- `LD HL,SP+e` writes HL and the flags (R234). -/
theorem exec_ldHLSPe (e : Byte) (s : State) :
    exec (Form.ldHLSPe e).instr s =
      .next (((s.setHl (spPlus s.cpu.sp e).1).setFlags (spPlus s.cpu.sp e).2).charge 3) :=
  exec_instr (.ldHLSPe e) s nofun

/-- `ADD SP,e` writes SP and the flags (R260). -/
theorem exec_addSPe (e : Byte) (s : State) :
    exec (Form.addSPe e).instr s =
      .next (((s.setSp (spPlus s.cpu.sp e).1).setFlags (spPlus s.cpu.sp e).2).charge 4) :=
  exec_instr (.addSPe e) s nofun

/-! ## The statements -/

/-- Settles O8: the forms with a register destination, by their fields and their form's meaning. -/
theorem registerLoads : Obligations.RegisterLoads := fun s dst src n =>
  ⟨decodesTo_ldRR dst src, decodesTo_ldRN dst n, decodesTo_ldRM dst, exec_instr (.ldRR dst src) s nofun,
    exec_instr (.ldRN dst n) s nofun, exec_instr (.ldRM dst) s nofun⟩

/-- Settles O9: A gets the byte read at the rule's address; the forms through HL read or write first and then move HL. -/
theorem accumulatorTransfers : Obligations.AccumulatorTransfers := by
  rintro s n nn u d rfl rfl
  refine ⟨⟨rfl, rfl, decodesTo_n16 nn rfl, rfl, rfl, rfl, rfl, rfl, rfl⟩, ?_⟩
  simp only [← highPage_eq, ← word_add_allOnes]
  refine ⟨exec_instr .ldABC s nofun, exec_instr .ldADE s nofun, exec_instr (.ldANN nn) s nofun, exec_instr .ldhAC s nofun,
    exec_instr (.ldhAN n) s nofun, exec_instr .ldAHLi s nofun, exec_instr .ldAHLd s nofun, ?_⟩
  rintro t rfl
  exact ⟨exec_instr .ldHLiA s nofun, exec_instr .ldHLdA s nofun⟩

/-- Settles O10: each form is one bus write and its cost. -/
theorem byteStores : Obligations.ByteStores := by
  intro s src n nn
  refine ⟨⟨decodesTo_ldMR src, rfl, rfl, rfl, decodesTo_n16 nn rfl, rfl, rfl⟩, ?_⟩
  simp only [← highPage_eq]
  exact ⟨exec_instr (.ldMR src) s nofun, exec_instr (.ldMN n) s nofun, exec_instr .ldBCA s nofun, exec_instr .ldDEA s nofun,
    exec_instr (.ldNNA nn) s nofun, exec_instr .ldhCA s nofun, exec_instr (.ldhNA n) s nofun⟩

/-- Settles O11: a word goes to a pair or to two addresses as its low and its high byte. -/
theorem wordLoads : Obligations.WordLoads := by
  rintro s p nn lo hi rfl rfl
  exact ⟨⟨decodesTo_ldPairNN p nn, decodesTo_n16 nn rfl, rfl⟩, exec_instr (.ldPairNN .bc nn) s nofun,
    exec_instr (.ldPairNN .de nn) s nofun, exec_instr (.ldPairNN .hl nn) s nofun, exec_instr (.ldPairNN .sp nn) s nofun,
    exec_instr (.ldNNSP nn) s nofun, exec_instr .ldSPHL s nofun⟩

/-- Settles O12: a push is two writes below SP of the pair's two bytes, a pop two reads from SP on. -/
theorem pushAndPop : Obligations.PushAndPop := by
  refine ⟨fun q => ⟨decodesTo_push q, decodesTo_pop q⟩, ?_, ?_⟩
  · rintro s q hi lo hbc hde hhl haf t u rfl rfl
    have bytes : s.stackPair q = Word.ofBytes hi lo := by
      cases q with
      | bc => obtain ⟨rfl, rfl⟩ := hbc rfl; rfl
      | de => obtain ⟨rfl, rfl⟩ := hde rfl; rfl
      | hl => obtain ⟨rfl, rfl⟩ := hhl rfl; rfl
      | af => obtain ⟨rfl, rfl⟩ := haf rfl; rfl
    rw [exec_push, bytes, push16_ofBytes]
    rfl
  · rintro s lo hi rfl rfl
    obtain ⟨bc, de, hl, af⟩ :=
      setStackPair_ofBytes (s.setSp (s.cpu.sp + 2)) (s.busRead (s.cpu.sp + 1)) (s.busRead s.cpu.sp)
    rw [exec_pop, exec_pop, exec_pop, exec_pop, bc, de, hl, af]
    exact ⟨rfl, rfl, rfl, rfl⟩

/-- Settles O13: both forms write the sum and the flags that `spPlus_eq` gives. -/
theorem stackPointerPlus : Obligations.StackPointerPlus := by
  rintro s e w f rfl rfl
  refine ⟨rfl, rfl, ?_, ?_⟩
  · rw [exec_ldHLSPe, spPlus_eq]; rfl
  · rw [exec_addSPe, spPlus_eq]; rfl

end Sys2Proof.Machine

/-! PROOFS. The arithmetic and logic family (43_cpu_alu.md): the encodings of its rows, what the flag computations and the
shared operations of the family do in the words of the rules, and the statements about its instructions. -/

namespace Sys2Proof.Machine

/-! ## Encodings by fields -/

/-- The three forms of an accumulator operation by its `alu` field and the register field (R147, R240). -/
theorem aluEncodings_all (op : AluOp) : aluEncodings op := by
  refine ⟨fun r => ?_, ?_, fun n => ?_⟩
  · cases op <;> cases r <;> rfl
  · cases op <;> rfl
  · cases op <;> rfl

/-- `INC r` by its register field (R249). -/
theorem decodesTo_incR (r : Reg8) : decodesTo [BitVec.ofNat 8 (0x04 + 8 * r.field)] (.incR r) := by
  cases r <;> rfl

/-- `DEC r` by its register field (R251). -/
theorem decodesTo_decR (r : Reg8) : decodesTo [BitVec.ofNat 8 (0x05 + 8 * r.field)] (.decR r) := by
  cases r <;> rfl

/-- `ADD HL,rr` by its pair field (R257). -/
theorem decodesTo_addHL (p : Pair) : decodesTo [BitVec.ofNat 8 (0x09 + 16 * p.field)] (.addHL p) := by
  cases p <;> rfl

/-- `INC rr` by its pair field (R258). -/
theorem decodesTo_incPair (p : Pair) : decodesTo [BitVec.ofNat 8 (0x03 + 16 * p.field)] (.incPair p) := by
  cases p <;> rfl

/-- `DEC rr` by its pair field (R259). -/
theorem decodesTo_decPair (p : Pair) : decodesTo [BitVec.ofNat 8 (0x0B + 16 * p.field)] (.decPair p) := by
  cases p <;> rfl

/-! ## The computations in the words of the rules -/

/-- The low nibble is a given one iff the masked byte is. -/
theorem nibble_eq_iff (v : Byte) {n : Nat} (h : n < 256) : nibble v = n ↔ v &&& 0x0F = BitVec.ofNat 8 n := by
  have value : (BitVec.ofNat 8 n).toNat = n := Nat.mod_eq_of_lt h
  rw [nibble_eq, ← BitVec.toNat_inj, value]

/-- `INC`: the sum is 0 for 0xFF only, and the low nibble carries for 0x0F only (R249, R250). -/
theorem incByte_eq (f : Flags) (v : Byte) :
    incByte f v = (v + 1, { z := decide (v = 0xFF), n := false, h := decide (v &&& 0x0F = 0x0F), c := f.c }) := by
  have zero : v + 1 = 0 ↔ v = 0xFF := eq_neg_iff_add_eq_zero.symm
  have carry : nibble v = 0x0F ↔ v &&& 0x0F = 0x0F := nibble_eq_iff v (by decide)
  simp only [incByte, zero, carry]

/-- `DEC`: the difference is 0 for 1 only, and the low nibble borrows for 0 only (R251, R252). -/
theorem decByte_eq (f : Flags) (v : Byte) :
    decByte f v = (v - 1, { z := decide (v = 1), n := true, h := decide (v &&& 0x0F = 0), c := f.c }) := by
  have zero : v - 1 = 0 ↔ v = 1 := sub_eq_zero
  have borrow : nibble v = 0 ↔ v &&& 0x0F = 0 := nibble_eq_iff v (by decide)
  simp only [decByte, zero, borrow]

/-- `ADD HL,rr`: the sum, with the half carry by masks of 12 bits (R257). -/
theorem addWord_eq (f : Flags) (hl v : Word) :
    addWord f hl v =
      (hl + v,
        { z := f.z, n := false, h := decide (0x0FFF < (hl &&& 0x0FFF).toNat + (v &&& 0x0FFF).toNat),
          c := decide (0xFFFF < hl.toNat + v.toNat) }) := by
  obtain ⟨hlLow, -, -⟩ := word_and_low hl
  obtain ⟨vLow, -, -⟩ := word_and_low v
  simp only [addWord, exceeds_eq, hlLow, vLow]

/-- `DAA` decides both corrections on A as it was: 0x60 added to A leaves its low digit (R253). -/
theorem daaInt_eq {f : Flags} {a : Byte} {hi lo : Bool}
    (hhi : hi = (f.c || (!f.n && decide (0x99 < a.toNat))))
    (hlo : lo = (f.h || (!f.n && decide (0x09 < (a &&& 0x0F).toNat)))) :
    daaInt f a =
      (if f.n then (a.toNat : Int) - (if hi then 0x60 else 0) - (if lo then 0x06 else 0)
        else (a.toNat : Int) + (if hi then 0x60 else 0) + (if lo then 0x06 else 0), hi) := by
  cases hn : f.n with
  | true =>
    have high : f.c = hi := by simp [hhi, hn]
    have low : f.h = lo := by simp [hlo, hn]
    simp only [daaInt, hn, high, low]
    cases hi <;> cases lo <;> simp
  | false =>
    have high : (f.c || exceeds a.toNat 0x99) = hi := by simp [hhi, hn]
    have low (x : Int) (hx : x % 16 = nibble a) : (f.h || decide (x % 16 > 0x09)) = lo := by
      simp [hlo, hn, hx, nibble_eq]
    have same : (a.toNat : Int) % 16 = nibble a := rfl
    have raised : ((a.toNat : Int) + 0x60) % 16 = nibble a := by rw [← same]; omega
    simp only [daaInt, hn, high]
    cases hi with
    | true => simp only [if_true, low _ raised]; cases lo <;> simp
    | false => simp only [Bool.false_eq_true, if_false, low _ same]; cases lo <;> simp

/-- A difference of integers, reduced to a byte, is the difference of the bytes. -/
theorem ofInt_sub_byte (x y : Int) : BitVec.ofInt 8 (x - y) = BitVec.ofInt 8 x - BitVec.ofInt 8 y := Int.cast_sub x y

/-- `DAA`: the corrected A and its flags, with the two corrections of the rule (R253). -/
theorem daaByte_eq {f : Flags} {a r : Byte} {hi lo : Bool}
    (hhi : hi = (f.c || (!f.n && decide (0x99 < a.toNat))))
    (hlo : lo = (f.h || (!f.n && decide (0x09 < (a &&& 0x0F).toNat))))
    (hr : r = if f.n then a - (if hi then 0x60 else 0) - (if lo then 0x06 else 0)
      else a + (if hi then 0x60 else 0) + (if lo then 0x06 else 0)) :
    daaByte f a = (r, { z := decide (r = 0), n := f.n, h := false, c := hi }) := by
  obtain ⟨value, carry⟩ := Prod.ext_iff.mp (daaInt_eq hhi hlo)
  have byte : BitVec.ofInt 8 (daaInt f a).1 = r := by
    rw [value, hr]
    simp [apply_ite (BitVec.ofInt 8), BitVec.ofInt_add, ofInt_sub_byte]
  rw [daaByte, byte, carry]

/-! ## What the instructions do -/

/-- An accumulator operation, in each of its forms, writes the byte and the flags it computes and nothing else (R240). -/
theorem exec_alu_next {op : AluOp} {s : State} {i : Instr} {v a : Byte} {m : Nat} {f : Flags} (h : aluOperand op s i v m)
    (result : aluByte op s.cpu.f s.cpu.a v = (a, f)) :
    exec i s = .next ({ s with cpu := { s.cpu with a := a, f := f } }.charge m) := by
  rw [exec_alu h, result]; rfl

/-- `INC r` writes the register and the flags (R249). -/
theorem exec_incR (r : Reg8) (s : State) :
    exec (Form.incR r).instr s =
      .next (((s.setReg r (incByte s.cpu.f (s.reg r)).1).setFlags (incByte s.cpu.f (s.reg r)).2).charge 1) :=
  exec_instr (.incR r) s nofun

/-- `DEC r` writes the register and the flags (R251). -/
theorem exec_decR (r : Reg8) (s : State) :
    exec (Form.decR r).instr s =
      .next (((s.setReg r (decByte s.cpu.f (s.reg r)).1).setFlags (decByte s.cpu.f (s.reg r)).2).charge 1) :=
  exec_instr (.decR r) s nofun

/-- `INC (HL)` reads, then writes, at HL, and writes the flags (R250). -/
theorem exec_incM (s : State) :
    exec Form.incM.instr s =
      .next (((s.busWrite s.hl (incByte s.cpu.f (s.busRead s.hl)).1).setFlags
        (incByte s.cpu.f (s.busRead s.hl)).2).charge 3) :=
  exec_instr .incM s nofun

/-- `DEC (HL)` reads, then writes, at HL, and writes the flags (R252). -/
theorem exec_decM (s : State) :
    exec Form.decM.instr s =
      .next (((s.busWrite s.hl (decByte s.cpu.f (s.busRead s.hl)).1).setFlags
        (decByte s.cpu.f (s.busRead s.hl)).2).charge 3) :=
  exec_instr .decM s nofun

/-- `DAA` writes A and the flags (R253). -/
theorem exec_daa (s : State) :
    exec Form.daa.instr s = .next ((s.setAF (daaByte s.cpu.f s.cpu.a)).charge 1) :=
  exec_instr .daa s nofun

/-- `ADD HL,rr` writes HL and the flags (R257). -/
theorem exec_addHL (p : Pair) (s : State) :
    exec (Form.addHL p).instr s =
      .next (((s.setHl (addWord s.cpu.f s.hl (s.pair p)).1).setFlags (addWord s.cpu.f s.hl (s.pair p)).2).charge 2) :=
  exec_instr (.addHL p) s nofun

/-- `INC rr` writes the pair (R258). -/
theorem exec_incPair (p : Pair) (s : State) :
    exec (Form.incPair p).instr s = .next ((s.setPair p (s.pair p + 1)).charge 2) :=
  exec_instr (.incPair p) s nofun

/-- `DEC rr` writes the pair (R259). -/
theorem exec_decPair (p : Pair) (s : State) :
    exec (Form.decPair p).instr s = .next ((s.setPair p (s.pair p - 1)).charge 2) :=
  exec_instr (.decPair p) s nofun

/-! ## The statements -/

/-- Settles O14: both operations are the sum that `addByte_eq` gives, with no carry in or with Cf. -/
theorem addWithCarry : Obligations.AddWithCarry := by
  refine ⟨aluEncodings_all .add, aluEncodings_all .adc, ?_⟩
  rintro s i v m k r (⟨operand, rfl⟩ | ⟨operand, rfl⟩) rfl
  · exact exec_alu_next operand (addByte_eq s.cpu.a v false)
  · exact exec_alu_next operand (addByte_eq s.cpu.a v s.cpu.f.c)

/-- Settles O15: the three operations are the difference that `subByte_eq` gives; `CP` takes its flags only. -/
theorem subtractWithBorrow : Obligations.SubtractWithBorrow := by
  refine ⟨aluEncodings_all .sub, aluEncodings_all .sbc, aluEncodings_all .cp, ?_⟩
  rintro s i v m k r keep (⟨operand, rfl, rfl⟩ | ⟨operand, rfl, rfl⟩ | ⟨operand, rfl, rfl⟩) rfl
  · exact exec_alu_next operand (subByte_eq s.cpu.a v false)
  · exact exec_alu_next operand (subByte_eq s.cpu.a v s.cpu.f.c)
  · exact exec_alu_next operand (congrArg (fun x => (s.cpu.a, x.2)) (subByte_eq s.cpu.a v false))

/-- Settles O16: each operation is its bitwise result with the flags of `logicByte`. -/
theorem bitwiseLogic : Obligations.BitwiseLogic := by
  refine ⟨aluEncodings_all .and, aluEncodings_all .xor, aluEncodings_all .or, ?_⟩
  rintro s i v m r h (⟨operand, rfl, rfl⟩ | ⟨operand, rfl, rfl⟩ | ⟨operand, rfl, rfl⟩)
  · exact exec_alu_next operand rfl
  · exact exec_alu_next operand rfl
  · exact exec_alu_next operand rfl

/-- Settles O17: the register and the memory forms write the byte and the flags of `incByte_eq` and `decByte_eq`. -/
theorem incrementDecrement : Obligations.IncrementDecrement := by
  rintro s r v w rfl rfl
  refine ⟨⟨decodesTo_incR r, decodesTo_decR r, rfl, rfl⟩, ?_, ?_, ?_, ?_⟩
  · rw [exec_incR, incByte_eq]
  · rw [exec_decR, decByte_eq]
  · rw [exec_incM, incByte_eq]; rfl
  · rw [exec_decM, decByte_eq]; rfl

/-- Settles O18: `DAA` by `daaByte_eq`; the other three change A and the flags as their forms say. -/
theorem accumulatorAdjustments : Obligations.AccumulatorAdjustments := by
  intro s hi lo r hhi hlo hr
  refine ⟨⟨rfl, rfl, rfl, rfl⟩, ?_, exec_instr .cpl s nofun, exec_instr .scf s nofun, exec_instr .ccf s nofun⟩
  rw [exec_daa, daaByte_eq hhi hlo hr]
  rfl

/-- Settles O19: `ADD HL` by `addWord_eq`; `INC rr` and `DEC rr` write both halves of the pair, or SP. -/
theorem wordArithmetic : Obligations.WordArithmetic := by
  rintro s p v w hv rfl
  obtain rfl : v = s.pair p := by cases p <;> exact hv
  refine ⟨⟨decodesTo_addHL p, decodesTo_incPair p, decodesTo_decPair p⟩, ?_, ?_⟩
  · rw [exec_addHL, addWord_eq]
    rfl
  · rintro i x (⟨rfl, rfl⟩ | ⟨rfl, rfl⟩)
    · rw [exec_incPair]; cases p <;> rfl
    · rw [exec_decPair]; cases p <;> rfl

end Sys2Proof.Machine

/-! PROOFS. The rotate, shift and bit family (44_cpu_rotate_bit.md): the encodings of its rows, what its shared forms do in the
words of the rules, and the statements about its instructions. -/

namespace Sys2Proof.Machine

/-! ## Encodings by fields -/

/-- The byte after 0xCB selects the row by itself; nothing is left (R140, R152). -/
theorem decodesTo_cb {op2 : Byte} {f : Form} (h : decodeExtended op2 = f) : decodesTo [0xCB, op2] f := h ▸ rfl

/-- A rotate or shift of a register by its two fields (R275 to R282). -/
theorem decodesTo_rotR (rot : RotOp) (r : Reg8) :
    decodesTo [0xCB, BitVec.ofNat 8 (8 * rot.field + r.field)] (.rotR rot r) :=
  decodesTo_cb (by cases rot <;> cases r <;> rfl)

/-- A rotate or shift of the byte at HL by its operation field (R275 to R282). -/
theorem decodesTo_rotM (rot : RotOp) : decodesTo [0xCB, BitVec.ofNat 8 (8 * rot.field + 6)] (.rotM rot) :=
  decodesTo_cb (by cases rot <;> rfl)

/-- `BIT b,r` by its bit and register fields (R283). -/
theorem decodesTo_bitR (b : Oct) (r : Reg8) :
    decodesTo [0xCB, BitVec.ofNat 8 (0x40 + 8 * b.toNat + r.field)] (.bitR b r) :=
  decodesTo_cb (by cases b <;> cases r <;> rfl)

/-- `BIT b,(HL)` by its bit field (R283). -/
theorem decodesTo_bitM (b : Oct) : decodesTo [0xCB, BitVec.ofNat 8 (0x46 + 8 * b.toNat)] (.bitM b) :=
  decodesTo_cb (by cases b <;> rfl)

/-- `RES b,r` by its bit and register fields (R284). -/
theorem decodesTo_resR (b : Oct) (r : Reg8) :
    decodesTo [0xCB, BitVec.ofNat 8 (0x80 + 8 * b.toNat + r.field)] (.resR b r) :=
  decodesTo_cb (by cases b <;> cases r <;> rfl)

/-- `RES b,(HL)` by its bit field (R284). -/
theorem decodesTo_resM (b : Oct) : decodesTo [0xCB, BitVec.ofNat 8 (0x86 + 8 * b.toNat)] (.resM b) :=
  decodesTo_cb (by cases b <;> rfl)

/-- `SET b,r` by its bit and register fields (R285). -/
theorem decodesTo_setR (b : Oct) (r : Reg8) :
    decodesTo [0xCB, BitVec.ofNat 8 (0xC0 + 8 * b.toNat + r.field)] (.setR b r) :=
  decodesTo_cb (by cases b <;> cases r <;> rfl)

/-- `SET b,(HL)` by its bit field (R285). -/
theorem decodesTo_setM (b : Oct) : decodesTo [0xCB, BitVec.ofNat 8 (0xC6 + 8 * b.toNat)] (.setM b) :=
  decodesTo_cb (by cases b <;> rfl)

/-! ## What the shared forms do -/

section
variable {rot : RotOp} {s : State} {w : Byte} {out : Bool}

/-- An accumulator rotate writes A and the flags, with Z always 0, and nothing else (R270 to R273). -/
theorem runAccRot_eq (h : rotated rot s.cpu.f.c s.cpu.a w out) :
    runAccRot rot s =
      .next ({ s with cpu := { s.cpu with a := w, f := { z := false, n := false, h := false, c := out } } }.charge 1) := by
  rw [runAccRot, rotByte_eq h]; rfl

/-- A rotate or shift of a register writes it back, with Z from the result (R274 to R282). -/
theorem exec_rotR {r : Reg8} (h : rotated rot s.cpu.f.c (s.reg r) w out) :
    exec (Form.rotR rot r).instr s =
      .next (((s.setReg r w).setFlags { z := decide (w = 0), n := false, h := false, c := out }).charge 2) := by
  have run : exec (Form.rotR rot r).instr s = runRotR rot r s := exec_instr (.rotR rot r) s nofun
  rw [run, runRotR, rotByte_eq h]; rfl

/-- A rotate or shift of the byte at HL writes it back there, with Z from the result (R274 to R282). -/
theorem exec_rotM (h : rotated rot s.cpu.f.c (s.busRead s.hl) w out) :
    exec (Form.rotM rot).instr s =
      .next (((s.busWrite s.hl w).setFlags { z := decide (w = 0), n := false, h := false, c := out }).charge 4) := by
  have run : exec (Form.rotM rot).instr s = runRotM rot s := exec_instr (.rotM rot) s nofun
  rw [run, runRotM, State.readHl, rotByte_eq h]; rfl

end

/-! ## The statements -/

/-- Settles O20: the result and the carry of every form are those of `rotByte_eq`; only the flag Z differs between the
accumulator rotates and the extended table. -/
theorem rotatesAndShifts : Obligations.RotatesAndShifts := by
  refine ⟨⟨rfl, rfl, rfl, rfl, fun rot r => ⟨decodesTo_rotR rot r, decodesTo_rotM rot⟩⟩, ?_, ?_⟩
  · rintro s t rot w out h rfl
    refine ⟨?_, ?_, ?_, ?_⟩ <;> rintro rfl
    · exact (exec_instr .rlca s nofun).trans (runAccRot_eq h)
    · exact (exec_instr .rrca s nofun).trans (runAccRot_eq h)
    · exact (exec_instr .rla s nofun).trans (runAccRot_eq h)
    · exact (exec_instr .rra s nofun).trans (runAccRot_eq h)
  · rintro s rot r v w out f h rfl
    refine ⟨?_, ?_⟩ <;> rintro rfl
    · exact exec_rotR h
    · exact exec_rotM h

/-- Settles O21: each form is its meaning by `exec_instr`; `BIT` writes the flags only, `RES` and `SET` the operand only. -/
theorem bitOperations : Obligations.BitOperations := by
  rintro s b r v m rfl rfl
  refine ⟨⟨decodesTo_bitR b r, decodesTo_bitM b, decodesTo_resR b r, decodesTo_resM b, decodesTo_setR b r, decodesTo_setM b⟩,
    ?_, ?_, ?_, ?_, ?_, ?_⟩
  · exact exec_instr (.bitR b r) s nofun
  · exact exec_instr (.bitM b) s nofun
  · exact exec_instr (.resR b r) s nofun
  · exact exec_instr (.resM b) s nofun
  · exact exec_instr (.setR b r) s nofun
  · exact exec_instr (.setM b) s nofun

end Sys2Proof.Machine

/-! PROOFS. The jump, call and return part of the control family (45_cpu_control.md): the encodings of its rows, both answers of
a conditional transfer, what a call and a return do, and the statements about its instructions. -/

namespace Sys2Proof.Machine

/-! ## Encodings by fields -/

/-- `JP cc,nn` by its condition field (R146, R292). -/
theorem decodesTo_jpCc (cc : Cond) (nn : Word) :
    decodesTo [BitVec.ofNat 8 (0xC2 + 8 * cc.field), nn.lo, nn.hi] (.jpCc cc nn) :=
  decodesTo_n16 nn (by cases cc <;> rfl)

/-- `JR cc,e` by its condition field (R146, R294). -/
theorem decodesTo_jrCc (cc : Cond) (e : Byte) : decodesTo [BitVec.ofNat 8 (0x20 + 8 * cc.field), e] (.jrCc cc e) := by
  cases cc <;> rfl

/-- `CALL cc,nn` by its condition field (R146, R297). -/
theorem decodesTo_callCc (cc : Cond) (nn : Word) :
    decodesTo [BitVec.ofNat 8 (0xC4 + 8 * cc.field), nn.lo, nn.hi] (.callCc cc nn) :=
  decodesTo_n16 nn (by cases cc <;> rfl)

/-- `RET cc` by its condition field (R146, R299). -/
theorem decodesTo_retCc (cc : Cond) : decodesTo [BitVec.ofNat 8 (0xC0 + 8 * cc.field)] (.retCc cc) := by
  cases cc <;> rfl

/-- `RST t` by its target field (R303). -/
theorem decodesTo_rst (k : Oct) : decodesTo [BitVec.ofNat 8 (0xC7 + 8 * k.toNat)] (.rst k) := by
  cases k <;> rfl

/-! ## What the shared operations do -/

section
variable {f : Form} {cc : Cond} {s : State} {taken untaken : StepResult}

/-- A form that tests a condition gives its taken answer when the condition is met (R290). -/
theorem exec_of_met (run : execForm f s = if condHolds cc s.cpu.f then taken else untaken) (hf : f ≠ .prefixCB)
    (met : conditionMet cc s) : exec f.instr s = taken := by
  rw [exec_instr f s hf, run, if_pos ((condHolds_iff cc s).mpr met)]

/-- A form that tests a condition gives its untaken answer when the condition is not met (R290). -/
theorem exec_of_not_met (run : execForm f s = if condHolds cc s.cpu.f then taken else untaken) (hf : f ≠ .prefixCB)
    (unmet : ¬ conditionMet cc s) : exec f.instr s = untaken := by
  rw [exec_instr f s hf, run, if_neg (mt (condHolds_iff cc s).mp unmet)]

end

/-- A taken call writes the two bytes of PC below SP, the high byte first, and then moves PC (R296, R303). -/
theorem callTo_eq (s : State) (target : Word) :
    s.callTo target =
      ((((s.setSp (s.cpu.sp - 1)).busWrite (s.cpu.sp - 1) s.cpu.pc.hi).setSp (s.cpu.sp - 2)).busWrite
        (s.cpu.sp - 2) s.cpu.pc.lo).setPc target := by
  rw [State.callTo, ← push16_ofBytes, ofBytes_hi_lo]

/-- A taken return moves SP two up and PC to the word at the old SP, low byte first (R298). -/
theorem returnTo_eq (s : State) :
    s.returnTo = (s.setSp (s.cpu.sp + 2)).setPc (Word.ofBytes (s.busRead (s.cpu.sp + 1)) (s.busRead s.cpu.sp)) := rfl

/-! ## The statements -/

/-- Settles O22: every jump sets PC alone; a conditional one answers by `exec_of_met` and `exec_of_not_met`. -/
theorem jumps : Obligations.Jumps := by
  rintro s cc nn e lo hi rfl rfl
  refine ⟨⟨decodesTo_n16 nn rfl, decodesTo_jpCc cc nn, rfl, decodesTo_jrCc cc e, rfl⟩, ?_, ?_, ?_, fun met => ⟨?_, ?_⟩,
    fun unmet => ⟨?_, ?_⟩⟩
  · exact exec_instr (.jp nn) s nofun
  · exact exec_instr (.jr e) s nofun
  · exact exec_instr .jpHL s nofun
  · exact exec_of_met (f := .jpCc cc nn) rfl nofun met
  · exact exec_of_met (f := .jrCc cc e) rfl nofun met
  · exact exec_of_not_met (f := .jpCc cc nn) rfl nofun unmet
  · exact exec_of_not_met (f := .jrCc cc e) rfl nofun unmet

/-- Settles O23: every taken call is the two writes and the jump of `callTo_eq`; an untaken one only charges its cycles. -/
theorem callsAndRestarts : Obligations.CallsAndRestarts := by
  rintro s cc nn k lo hi t u rfl rfl rfl rfl
  refine ⟨⟨decodesTo_n16 nn rfl, decodesTo_callCc cc nn, decodesTo_rst k⟩, ?_, ?_, fun met => ?_, fun unmet => ?_⟩
  · have run : exec (Form.call nn).instr s = (s.callTo nn).done 6 := exec_instr (.call nn) s nofun
    rw [run, callTo_eq]; rfl
  · have run : exec (Form.rst k).instr s = (s.callTo (rstTarget k)).done 4 := exec_instr (.rst k) s nofun
    rw [run, callTo_eq]; rfl
  · have run : exec (Form.callCc cc nn).instr s = (s.callTo nn).done 6 := exec_of_met rfl nofun met
    rw [run, callTo_eq]; rfl
  · exact exec_of_not_met (f := .callCc cc nn) rfl nofun unmet

/-- Settles O24: every taken return is the pop of `returnTo_eq`; an untaken one only charges its cycles. -/
theorem returns : Obligations.Returns := by
  rintro s cc a rfl
  refine ⟨⟨rfl, decodesTo_retCc cc⟩, ?_, fun met => ?_, fun unmet => ?_⟩
  · have run : exec Form.ret.instr s = s.returnTo.done 4 := exec_instr .ret s nofun
    rw [run, returnTo_eq]; rfl
  · have run : exec (Form.retCc cc).instr s = s.returnTo.done 5 := exec_of_met rfl nofun met
    rw [run, returnTo_eq]; rfl
  · exact exec_of_not_met (f := .retCc cc) rfl nofun unmet

end Sys2Proof.Machine

/-! PROOFS. The length counters and the frequency sweep of the APU (47_apu.md): what one clock of a length counter and
`SweepCalc` do in the words of the rules, and the statement about them. -/

namespace Sys2Proof.Machine

/-! ## The length counter -/

/-- A counter that is enabled and above 0 loses one, and its channel is disabled when it gets to 0; otherwise nothing changes
(R381). -/
theorem lengthClock_eq (lenEn : Bool) (length : Nat) (enabled : Bool) :
    lengthClock lenEn length enabled =
      if lenEn = true ∧ 0 < length then (length - 1, if length = 1 then false else enabled) else (length, enabled) := by
  by_cases counts : lenEn = true ∧ 0 < length
  · obtain ⟨hen, hpos⟩ := counts
    have last : length - 1 ≠ 0 ↔ length ≠ 1 := by omega
    by_cases one : length = 1 <;> simp [lengthClock, hen, hpos, last, one]
  · have idle : (lenEn && decide (0 < length)) = false := by simpa using counts
    simp [lengthClock, idle, counts]

/-! ## The sweep computation -/

/-- The sweep shift is the low three bits of NR10 (R384). -/
theorem Apu.sweepShift_eq (a : Apu) : a.sweepShift = a.sweep.nr10.toNat % 8 := by
  simp [sweepShift, BitVec.extractLsb'_toNat]

/-- `SweepCalc` adds the shifted shadow frequency to the shadow, or with negate set subtracts it (R384). -/
theorem Apu.sweepNew_eq (a : Apu) :
    a.sweepNew =
      if a.sweep.nr10.getLsbD 3 then a.sweep.shadow.toNat - a.sweep.shadow.toNat / 2 ^ a.sweepShift
      else a.sweep.shadow.toNat + a.sweep.shadow.toNat / 2 ^ a.sweepShift := by
  simp only [sweepNew, sweepShift, Nat.shiftRight_eq_div_pow]

/-- With negate set the new frequency is at most the shadow, which is 11 bits wide: no overflow (R384). -/
theorem Apu.sweepNew_le_of_negate (a : Apu) (negate : a.sweep.nr10.getLsbD 3 = true) : a.sweepNew ≤ 2047 := by
  rw [sweepNew_eq, if_pos negate]
  exact (Nat.sub_le ..).trans (Nat.le_of_lt_succ a.sweep.shadow.isLt)

/-- An overflow disables channel 1 and changes nothing else; without one nothing changes (R384). -/
theorem Apu.sweepCheck_eq (a : Apu) :
    a.sweepCheck = if 2047 < a.sweepNew then { a with ch1 := { a.ch1 with enabled := false } } else a := by
  simp only [sweepCheck, ← Nat.not_lt, ite_not]

/-- The new frequency as an integer: the natural subtraction of `sweepNew_eq` does not truncate (R384). -/
theorem Apu.sweepNew_int (a : Apu) :
    (a.sweepNew : Int) =
      if a.sweep.nr10.getLsbD 3 then (a.sweep.shadow.toNat : Int) - (a.sweep.shadow.toNat / 2 ^ a.sweepShift : Nat)
      else a.sweep.shadow.toNat + (a.sweep.shadow.toNat / 2 ^ a.sweepShift : Nat) := by
  have shifted_le := Nat.div_le_self a.sweep.shadow.toNat (2 ^ a.sweepShift)
  rw [sweepNew_eq]
  split
  · exact Int.ofNat_sub shifted_le
  · exact Int.natCast_add _ _

/-! ## The statement -/

/-- Settles O49: a clock of the lengths is `lengthClock` on each channel; `SweepCalc` by its four equations. -/
theorem lengthClockAndSweepCalc : Obligations.LengthClockAndSweepCalc := by
  intro a d
  refine ⟨lengthClock_eq, rfl, ?_⟩
  rintro rfl
  rw [← a.sweepShift_eq]
  exact ⟨a.sweepNew_int, a.sweepNew_le_of_negate, a.sweepCheck_eq⟩

end Sys2Proof.Machine

/-! PROOFS. The decoder and the encoder (30_encoding.md): the rows of the unextended and the extended table as the decoder reads
them, the round trips in both directions, and the totality of the opcode map. -/

namespace Sys2Proof

/-! ## What the decoder reads -/

/-- An answer of the decoder on an opcode byte `op` and the bytes after it that is a row of the table: one of the three formats
with operand bytes (R140), whose forms are well formed and are encoded by that opcode. -/
inductive ReadsRow (op : Byte) (rest : List Byte) : DecodeResult → Prop where
  | bare (f : Form) (bytes : encode f.instr = [op]) (wf : f.wf = true) : ReadsRow op rest (fmtOp f rest)
  | byte (f : Byte → Form) (bytes : ∀ n, encode (f n).instr = [op, n]) (wf : ∀ n, (f n).wf = true) :
      ReadsRow op rest (fmtN8 op f rest)
  | word (f : Word → Form) (bytes : ∀ nn, encode (f nn).instr = encN16 op nn) (wf : ∀ nn, (f nn).wf = true) :
      ReadsRow op rest (fmtN16 op f rest)

/-- The two operand bytes of a row, low byte first, are the bytes of the operand word (R149). -/
theorem encN16_ofBytes (op lo hi : Byte) : encN16 op (Word.ofBytes hi lo) = [op, lo, hi] := by
  rw [encN16, Machine.ofBytes_lo, Machine.ofBytes_hi]

/-- What a row reads is well formed, and its encoding followed by the rest is what was read. -/
theorem ReadsRow.sound {op : Byte} {rest left : List Byte} {r : DecodeResult} {f : Form} (row : ReadsRow op rest r)
    (read : r = .ok (f, left)) : encode f.instr ++ left = op :: rest ∧ f.wf = true := by
  cases row with
  | bare g bytes wf => cases read; exact ⟨by rw [bytes]; rfl, wf⟩
  | byte g bytes wf =>
    cases rest with
    | nil => nomatch read
    | cons n rest => cases read; exact ⟨by rw [bytes]; rfl, wf n⟩
  | word g bytes wf =>
    match rest with
    | [] | [_] => nomatch read
    | lo :: hi :: rest => cases read; exact ⟨by rw [bytes, encN16_ofBytes]; rfl, wf _⟩

/-- Two bytes after the opcode are enough for every row. -/
theorem ReadsRow.total {op b c : Byte} {r : DecodeResult} (row : ReadsRow op [b, c] r) : ∃ f left, r = .ok (f, left) := by
  cases row with
  | bare f _ _ => exact ⟨f, [b, c], rfl⟩
  | byte f _ _ => exact ⟨f b, [c], rfl⟩
  | word f _ _ => exact ⟨f (Word.ofBytes c b), [], rfl⟩

/-- An opcode byte by its fields `x`, `y` and `z` (R141). -/
theorem opcode_fields (op : Byte) : ∃ (x : Fin 4) (y z : Fin 8), op = BitVec.ofNat 8 (64 * x + 8 * y + z) := by
  have lt := op.isLt
  refine ⟨⟨op.toNat / 64, by omega⟩, ⟨op.toNat / 8 % 8, by omega⟩, ⟨op.toNat % 8, by omega⟩, ?_⟩
  apply BitVec.eq_of_toNat_eq
  rw [BitVec.toNat_ofNat]
  simp only
  omega

/-- Every opcode byte but 0xCB reads a row of the table, field by field (R151, R155). -/
theorem decodeOpcode_reads {op : Byte} (rest : List Byte) (ne : op ≠ 0xCB) : ReadsRow op rest (decodeOpcode op rest) := by
  obtain ⟨x, y, z, rfl⟩ := opcode_fields op
  fin_cases x <;> fin_cases y <;> fin_cases z
  -- The goals stand in the order of the opcodes from 0x00 on: the one numbered 0xCB + 1 is that of the prefix byte.
  on_goal 204 => exact absurd rfl ne
  all_goals
    constructor
    all_goals intros; rfl

/-- The extended table has a row for every second byte: it is encoded by 0xCB and that byte (R152). -/
theorem encode_decodeExtended (op2 : Byte) :
    encode (decodeExtended op2).instr = [0xCB, op2] ∧ (decodeExtended op2).wf = true := by
  obtain ⟨x, y, z, rfl⟩ := opcode_fields op2
  fin_cases x <;> fin_cases y <;> fin_cases z
  all_goals exact ⟨rfl, rfl⟩

/-- What the decoder reads is well formed, and its encoding followed by the rest is what was read: a row of the table, or for
0xCB a row of the extended one, or 0xCB alone. -/
theorem decodeForm_sound {bs left : List Byte} {f : Form} (read : decodeForm bs = .ok (f, left)) :
    encode f.instr ++ left = bs ∧ f.wf = true := by
  cases bs with
  | nil => nomatch read
  | cons op rest =>
    by_cases cb : op = 0xCB
    · subst cb
      cases rest with
      | nil => cases read; exact ⟨rfl, rfl⟩
      | cons op2 rest =>
        cases read
        obtain ⟨bytes, wf⟩ := encode_decodeExtended op2
        exact ⟨by rw [bytes]; rfl, wf⟩
    · exact (decodeOpcode_reads rest cb).sound read

/-- An instruction is decoded from bytes iff its form is. -/
theorem decode_eq_ok {bs left : List Byte} {i : Instr} (h : decode bs = .ok (i, left)) :
    decodeForm bs = .ok (i.form, left) := by
  unfold decode at h
  cases read : decodeForm bs with
  | error e => rw [read] at h; nomatch h
  | ok r => rw [read] at h; cases h; rw [Form.form_instr]

/-- Three bytes always begin with an instruction (R155, R195). -/
theorem decode_window (op b c : Byte) : ∃ i left, decode [op, b, c] = .ok (i, left) := by
  have read : ∃ f left, decodeForm [op, b, c] = .ok (f, left) := by
    by_cases cb : op = 0xCB
    · subst cb; exact ⟨decodeExtended b, [c], rfl⟩
    · exact (decodeOpcode_reads [b, c] cb).total
  obtain ⟨f, left, read⟩ := read
  exact ⟨f.instr, left, by rw [decode, read]⟩

/-- The decoder answers `illegal` for the eleven opcodes without an entry (R155). -/
theorem decode_illegal {op : Byte} (h : op ∈ illegalOpcodes) (rest : List Byte) :
    decode (op :: rest) = .ok (.illegal op, rest) := by
  simp only [illegalOpcodes, List.mem_cons, List.not_mem_nil, or_false] at h
  rcases h with rfl | rfl | rfl | rfl | rfl | rfl | rfl | rfl | rfl | rfl | rfl <;> rfl

/-- A form that is an opcode without an entry is encoded by it, and well formed only if it really has none (R155). -/
theorem illegal_wf {op : Byte} : (Instr.illegal op).wf = true ↔ op ∈ illegalOpcodes := List.contains_iff_mem

/-! ## What the decoder makes of an encoding -/

/-- A row with an operand word decodes from its encoding (R142, R149). -/
theorem decode_encN16 {op : Byte} {f : Word → Form} (nn : Word) (rest : List Byte)
    (row : decodeOpcode op (nn.lo :: nn.hi :: rest) = fmtN16 op f (nn.lo :: nn.hi :: rest)) :
    decode (encN16 op nn ++ rest) = .ok ((f nn).instr, rest) := by
  simp only [encN16, List.cons_append, List.nil_append, decode, decodeForm, row, fmtN16, Machine.ofBytes_hi_lo]

/-- A well-formed form decodes from its encoding, whatever follows; 0xCB alone has nothing after it (R140 to R155). -/
theorem decode_encode (f : Form) (rest : List Byte) (wf : f.wf = true) (alone : f = .prefixCB → rest = []) :
    decode (encode f.instr ++ rest) = .ok (f.instr, rest) := by
  cases f with
  | illegal op => exact decode_illegal (illegal_wf.mp wf) rest
  | prefixCB => rw [alone rfl]; rfl
  | ldRR dst src => cases dst <;> cases src <;> rfl
  | ldPairNN p nn => cases p <;> exact decode_encN16 nn rest rfl
  | ldANN nn | ldNNA nn | ldNNSP nn | jp nn | call nn => exact decode_encN16 nn rest rfl
  | jpCc cc nn | callCc cc nn => cases cc <;> exact decode_encN16 nn rest rfl
  | aluR op r | rotR op r | bitR op r | resR op r | setR op r => cases op <;> cases r <;> rfl
  | ldRN x n | ldRM x | ldMR x | push x | pop x | aluM x | aluN x n | incR x | decR x | addHL x | incPair x | decPair x
  | rotM x | bitM x | resM x | setM x | jrCc x e | retCc x | rst x => cases x <;> rfl
  | _ => rfl

end Sys2Proof

namespace Sys2Proof.Machine

/-! ## The statements -/

/-- Settles O1: an instruction is its form, and a form decodes from its encoding. -/
theorem encodeDecodeRoundTrip : Obligations.EncodeDecodeRoundTrip := by
  intro i rest wf alone
  have byForm := decode_encode i.form rest wf fun e => alone (by rw [← i.instr_form, e]; rfl)
  rwa [Instr.instr_form] at byForm

/-- Settles O2: every row the decoder reads is encoded by the bytes it was read from. -/
theorem decodeEncodeRoundTrip : Obligations.DecodeEncodeRoundTrip := by
  intro bs i rest h
  obtain ⟨bytes, wf⟩ := decodeForm_sound (decode_eq_ok h)
  exact ⟨by rw [← bytes, Instr.instr_form], wf⟩

/-- Settles O3: each word by evaluating the decoder on it. -/
theorem decodeSamples : Obligations.DecodeSamples := by
  refine ⟨?_, ?_, ?_, ?_, ?_, ?_, ?_, ?_⟩ <;> rfl

/-- Settles O4: a window of three bytes reads an instruction, which the round trip says is encoded by those bytes. -/
theorem opcodeMapTotal : Obligations.OpcodeMapTotal := by
  intro op b c
  obtain ⟨i, rest, h⟩ := decode_window op b c
  obtain ⟨bytes, wf⟩ := decodeEncodeRoundTrip _ _ _ h
  refine ⟨i, rest, h, wf, ?_, ?_, fun listed => ?_⟩
  · rw [Instr.length, ← List.length_append, bytes]; rfl
  · rintro ⟨o, rfl⟩
    cases bytes
    exact illegal_wf.mp wf
  · rw [decode_illegal listed] at h
    cases h
    exact ⟨op, rfl⟩

end Sys2Proof.Machine

/-! PROOFS. One instruction and one iteration (41_cpu_engine.md, 45_cpu_control.md, 60_exceptions.md): what an instruction can do
besides its result, the control instructions, fetching and dispatch, and the statements about them. -/

namespace Sys2Proof

/-- The forms that write to the bus. -/
def Form.stores : Form → Bool
  | .ldMR _ | .ldMN _ | .ldBCA | .ldDEA | .ldNNA _ | .ldhCA | .ldhNA _ | .ldHLdA | .ldHLiA | .ldNNSP _ | .push _ | .incM
  | .decM | .rotM _ | .resM _ | .setM _ | .call _ | .callCc _ _ | .rst _ => true
  | _ => false

/-- The forms that write a control bit of the CPU: IME, its delayed enable, the halted flag, the speed (R30 to R33). -/
def Form.controls : Form → Bool
  | .ei | .di | .reti | .halt | .stop _ => true
  | _ => false

namespace Machine

/-! ## What an instruction can do -/

/-- The control bits of two CPUs agree (R30 to R33). -/
structure Cpu.SameControl (c d : Cpu) : Prop where
  ime : c.ime = d.ime
  imePending : c.imePending = d.imePending
  halted : c.halted = d.halted
  speed : c.speed = d.speed
  speedArmed : c.speedArmed = d.speedArmed

/-- `t` is `s` after any number of updates of the CPU that keep its control bits and, where `store` allows it, of bus writes. -/
inductive Touches (store : Bool) (s : State) : State → Prop where
  | refl : Touches store s s
  | regs {t : State} (h : Touches store s t) (c : Cpu) (same : c.SameControl t.cpu) : Touches store s (t.setCpu c)
  | write {t : State} (h : Touches store s t) (allowed : store = true) (a : Word) (v : Byte) :
      Touches store s (t.busWrite a v)

namespace Touches

variable {store : Bool} {s t : State}

theorem setReg (h : Touches store s t) (r : Reg8) (v : Byte) : Touches store s (t.setReg r v) := by
  cases r <;> exact h.regs _ ⟨rfl, rfl, rfl, rfl, rfl⟩

theorem setFlags (h : Touches store s t) (f : Flags) : Touches store s (t.setFlags f) := h.regs _ ⟨rfl, rfl, rfl, rfl, rfl⟩

theorem setAF (h : Touches store s t) (r : Byte × Flags) : Touches store s (t.setAF r) := (h.setReg .a r.1).setFlags r.2

theorem setSp (h : Touches store s t) (v : Word) : Touches store s (t.setSp v) := h.regs _ ⟨rfl, rfl, rfl, rfl, rfl⟩

theorem setPc (h : Touches store s t) (v : Word) : Touches store s (t.setPc v) := h.regs _ ⟨rfl, rfl, rfl, rfl, rfl⟩

theorem setHl (h : Touches store s t) (v : Word) : Touches store s (t.setHl v) := h.regs _ ⟨rfl, rfl, rfl, rfl, rfl⟩

theorem setPair (h : Touches store s t) (p : Pair) (v : Word) : Touches store s (t.setPair p v) := by
  cases p <;> exact h.regs _ ⟨rfl, rfl, rfl, rfl, rfl⟩

theorem setStackPair (h : Touches store s t) (q : StackPair) (v : Word) : Touches store s (t.setStackPair q v) := by
  cases q <;> exact h.regs _ ⟨rfl, rfl, rfl, rfl, rfl⟩

theorem push16 (h : Touches true s t) (v : Word) : Touches true s (t.push16 v) := by
  rw [State.push16_eq]
  exact (((h.setSp _).write rfl _ _).setSp _).write rfl _ _

theorem callTo (h : Touches true s t) (target : Word) : Touches true s (t.callTo target) := (h.push16 _).setPc _

theorem returnTo (h : Touches store s t) : Touches store s t.returnTo := (h.setSp _).setPc _

end Touches

/-- An instruction completes after register updates and, where allowed, bus writes, and is charged at least one cycle. -/
def Completes (store : Bool) (s : State) (r : StepResult) : Prop :=
  ∃ t n, Touches store s t ∧ 0 < n ∧ r = .next (t.charge n)

theorem Touches.done {store : Bool} {s t : State} (h : Touches store s t) (n : Nat) : Completes store s (t.done (n + 1)) :=
  ⟨t, n + 1, h, n.succ_pos, rfl⟩

/-- Both answers of a conditional transfer complete. -/
theorem Completes.ite {store : Bool} {s : State} {b : Bool} {r r' : StepResult} (taken : Completes store s r)
    (untaken : Completes store s r') : Completes store s (if b then r else r') := by
  cases b
  · exact untaken
  · exact taken

/-- Every form but those that write control bits, the one without an entry and 0xCB completes after register updates and, if it
is one that stores, bus writes (42 to 45). -/
theorem execForm_completes (f : Form) (s : State) (control : f.controls = false) (notIllegal : ∀ op, f ≠ .illegal op)
    (notCb : f ≠ .prefixCB) : Completes f.stores s (execForm f s) := by
  have start {b : Bool} : Touches b s s := .refl
  cases f with
  | ei | di | reti | halt | stop _ => nomatch control
  | illegal op => exact absurd rfl (notIllegal op)
  | prefixCB => exact absurd rfl notCb
  | ldRR | ldRN | ldRM | ldABC | ldADE | ldANN | ldhAC | ldhAN | resR | setR => exact (start.setReg _ _).done _
  | ldMR | ldMN | ldBCA | ldDEA | ldNNA | ldhCA | ldhNA | resM | setM => exact (start.write rfl _ _).done _
  | ldAHLd | ldAHLi => exact ((start.setReg .a _).setHl _).done _
  | ldHLdA | ldHLiA => exact ((start.write rfl _ _).setHl _).done _
  | ldPairNN | incPair | decPair => exact (start.setPair _ _).done _
  | ldNNSP nn => exact ((start.write rfl nn _).write rfl (nn + 1) _).done _
  | ldSPHL => exact (start.setSp _).done _
  | push => exact (start.push16 _).done _
  | pop => exact ((start.setSp _).setStackPair _ _).done _
  | ldHLSPe | addHL => exact ((start.setHl _).setFlags _).done _
  | aluR | aluM | aluN | daa | cpl | rlca | rrca | rla | rra => exact (start.setAF _).done _
  | incR | decR | rotR => exact ((start.setReg _ _).setFlags _).done _
  | incM | decM | rotM => exact ((start.write rfl _ _).setFlags _).done _
  | scf | ccf | bitR | bitM => exact (start.setFlags _).done _
  | addSPe => exact ((start.setSp _).setFlags _).done _
  | jp | jr | jpHL => exact (start.setPc _).done _
  | jpCc | jrCc => exact .ite ((start.setPc _).done _) (start.done _)
  | call | rst => exact (start.callTo _).done _
  | callCc => exact .ite ((start.callTo _).done _) (start.done _)
  | ret => exact start.returnTo.done _
  | retCc => exact .ite (start.returnTo.done _) (start.done _)
  | nop => exact start.done _

/-- Without bus writes only the CPU is touched, and its control bits agree. -/
theorem Touches.only_cpu {s t : State} (h : Touches false s t) : ∃ c : Cpu, c.SameControl s.cpu ∧ t = s.setCpu c := by
  induction h with
  | refl => exact ⟨s.cpu, ⟨rfl, rfl, rfl, rfl, rfl⟩, rfl⟩
  | regs _ c same ih =>
    obtain ⟨d, sameD, rfl⟩ := ih
    exact ⟨c, ⟨same.ime.trans sameD.ime, same.imePending.trans sameD.imePending, same.halted.trans sameD.halted,
      same.speed.trans sameD.speed, same.speedArmed.trans sameD.speedArmed⟩, rfl⟩
  | write _ allowed => nomatch allowed

/-- What neither a register update nor a bus write changes: the control bits but the speed-switch request, the parameters, the
committed counter and the audio stream (R20, R30 to R33, R75). -/
theorem Touches.frame {store : Bool} {s t : State} (h : Touches store s t) :
    t.cpu.ime = s.cpu.ime ∧ t.cpu.imePending = s.cpu.imePending ∧ t.cpu.halted = s.cpu.halted ∧ t.cpu.speed = s.cpu.speed ∧
      t.cfg = s.cfg ∧ t.sched.cycle = s.sched.cycle ∧ t.sampleOut = s.sampleOut := by
  induction h with
  | refl => exact ⟨rfl, rfl, rfl, rfl, rfl, rfl, rfl⟩
  | regs _ c same ih =>
    obtain ⟨ime, pending, halted, speed, cfg, cycle, out⟩ := ih
    exact ⟨same.ime.trans ime, same.imePending.trans pending, same.halted.trans halted, same.speed.trans speed, cfg, cycle, out⟩
  | @write u _ _ a v ih =>
    obtain ⟨cfg, ⟨b, cpu⟩, out, cycle⟩ := u.busWrite_frame a v
    rw [cfg, cpu, out, cycle]
    exact ih

/-- A form of the extended table writes no control bit, has an entry and is not 0xCB (R152). -/
theorem decodeExtended_plain (op2 : Byte) : (decodeExtended op2).controls = false ∧ (∀ op, decodeExtended op2 ≠ .illegal op) ∧
    decodeExtended op2 ≠ .prefixCB := by
  rcases decodeExtended_cases op2 with ⟨_, _, e⟩ | ⟨_, e⟩ | ⟨_, _, e⟩ | ⟨_, e⟩ | ⟨_, _, e⟩ | ⟨_, e⟩ | ⟨_, _, e⟩ | ⟨_, e⟩ <;>
    rw [e] <;> exact ⟨rfl, nofun, nofun⟩

/-- What a form that writes control bits does: it updates the CPU and is charged. `HALT` alone halts; `STOP` alone touches the
speed, and not on a DMG; `EI`, `DI` and `RETI` alone touch IME (R300, R306 to R309). -/
structure ControlUpdate (f : Form) (s : State) (c : Cpu) : Prop where
  ime : f ≠ .ei → f ≠ .di → f ≠ .reti → c.ime = s.cpu.ime ∧ c.imePending = s.cpu.imePending
  halted : f ≠ .halt → c.halted = s.cpu.halted
  speed : (∀ n, f ≠ .stop n) ∨ s.cfg.model = .dmg → c.speed = s.cpu.speed ∧ c.speedArmed = s.cpu.speedArmed

theorem execForm_control (f : Form) (s : State) (control : f.controls = true) :
    ∃ c n, ControlUpdate f s c ∧ 0 < n ∧ execForm f s = .next ((s.setCpu c).charge n) := by
  cases f with
  | di => exact ⟨(s.setIme false false).cpu, 1, ⟨by simp, fun _ => rfl, fun _ => ⟨rfl, rfl⟩⟩, Nat.one_pos, rfl⟩
  | reti => exact ⟨s.returnFromInterrupt.cpu, 4, ⟨by simp, fun _ => rfl, fun _ => ⟨rfl, rfl⟩⟩, Nat.succ_pos 3, rfl⟩
  | halt =>
    exact ⟨{ s.cpu with halted := true }, 1, ⟨fun _ _ _ => ⟨rfl, rfl⟩, by simp, fun _ => ⟨rfl, rfl⟩⟩, Nat.one_pos, rfl⟩
  | ei =>
    have update (c : Cpu) (h : c.halted = s.cpu.halted) (v : c.speed = s.cpu.speed) (a : c.speedArmed = s.cpu.speedArmed) :
        ControlUpdate .ei s c := ⟨by simp, fun _ => h, fun _ => ⟨v, a⟩⟩
    simp only [execForm, runEi]
    split
    · split
      · exact ⟨s.cpu, 1, update _ rfl rfl rfl, Nat.one_pos, rfl⟩
      · exact ⟨(s.setIme false true).cpu, 1, update _ rfl rfl rfl, Nat.one_pos, rfl⟩
    · exact ⟨(s.setIme true s.cpu.imePending).cpu, 1, update _ rfl rfl rfl, Nat.one_pos, rfl⟩
  | stop k =>
    simp only [execForm, runStop]
    split
    · rename_i switches
      refine ⟨{ s.cpu with speed := !s.cpu.speed, speedArmed := false }, 1, ⟨fun _ _ _ => ⟨rfl, rfl⟩, fun _ => rfl, ?_⟩,
        Nat.one_pos, rfl⟩
      rintro (other | dmg)
      · exact absurd rfl (other k)
      · simp [dmg] at switches
    · exact ⟨s.cpu, 1, ⟨fun _ _ _ => ⟨rfl, rfl⟩, fun _ => rfl, fun _ => ⟨rfl, rfl⟩⟩, Nat.one_pos, rfl⟩
  | _ => nomatch control

/-- What 0xCB does: it moves PC past the byte it points at and runs the row that byte selects (R193, R198). -/
theorem exec_prefixCB (s : State) :
    exec .prefixCB s = execForm (decodeExtended (s.busRead s.cpu.pc)) (s.setPc (s.cpu.pc + 1)) := rfl

/-! ## Fetching, dispatch and the idle CPU -/

namespace State

/-- The length of the instruction a window of three bytes begins with is what the decoder leaves of the window (R140, R194). -/
theorem fetchWindow_length {s : State} {i : Instr} {rest : List Byte} (h : decode s.fetchWindow = .ok (i, rest)) :
    3 - rest.length = i.length := by
  obtain ⟨bytes, -⟩ := decodeEncodeRoundTrip _ _ _ h
  have total := congrArg List.length bytes
  rw [List.length_append] at total
  change i.length + rest.length = 3 at total
  omega

/-- `Step()` on a window that begins with an instruction: PC is moved past it, its meaning runs, then a delayed enable takes
effect (R193). -/
theorem cpuStep_next {s t : State} {i : Instr} {rest : List Byte} (h : decode s.fetchWindow = .ok (i, rest))
    (run : exec i (s.skipBytes i.length) = .next t) : s.cpuStep = .next (t.settleIme s.cpu.imePending) := by
  simp only [cpuStep, h, fetchWindow_length h, run]

/-- `Step()` at an opcode without an entry is the fatal error with that opcode and its address (R199). -/
theorem cpuStep_illegal {s : State} (h : s.busRead s.cpu.pc ∈ illegalOpcodes) :
    s.cpuStep = .fault (.undefinedOpcode (s.busRead s.cpu.pc) s.cpu.pc) := by
  have read : decode s.fetchWindow = .ok (.illegal (s.busRead s.cpu.pc), _) := decode_illegal h _
  have back : s.cpu.pc + BitVec.ofNat 16 1 - 1 = s.cpu.pc := BitVec.add_sub_cancel ..
  have meaning : ∀ u : State, exec (.illegal (s.busRead s.cpu.pc)) u =
      .fault (.undefinedOpcode (s.busRead s.cpu.pc) (u.cpu.pc - 1)) := fun _ => rfl
  simp only [cpuStep, read, meaning]
  rw [← back]
  rfl

/-- A delayed enable changes no fault. -/
@[simp] theorem settleIme_fault (s : State) (b : Bool) : (s.settleIme b).fault = s.fault := by
  unfold settleIme; split <;> rfl

/-- An iteration of a CPU that is not halted: one instruction, then `Commit` (R191). -/
theorem runOrIdle_next {s t : State} (awake : s.cpu.halted = false) (run : s.cpuStep = .next t) (ok : t.fault = none) :
    s.runOrIdle = .next t.commit := by
  simp [runOrIdle, awake, run, ok]

/-- An iteration of a CPU that is not halted at an opcode without an entry records the fault (R199). -/
theorem runOrIdle_fault {s : State} {f : Fault} (awake : s.cpu.halted = false) (run : s.cpuStep = .fault f) :
    s.runOrIdle = .next (s.raiseFault f) := by
  simp [runOrIdle, awake, run]

/-- An iteration without an interrupt to dispatch: the CPU is woken if one is enabled and pending (R191). -/
theorem iterate_of_no_dispatch {s : State} (h : s.serviceable = 0 ∨ s.cpu.ime = false) :
    s.iterate = (if s.serviceable = 0 then s else s.wake).runOrIdle := by
  unfold iterate
  by_cases none : s.serviceable = 0
  · rw [if_pos none, if_pos none]
  · have off : s.wake.cpu.ime = false := h.resolve_left none
    rw [if_neg none, if_neg none]
    exact if_neg (Bool.eq_false_iff.mp off)

/-- A halted CPU lets time jump to the head of the queue (R178, R200). -/
theorem runOrIdle_halted {s : State} {h : Handle} {due : Int} {q : List (Handle × Int)} (halted : s.cpu.halted = true)
    (head : s.sched.queue = (h, due) :: q) : s.runOrIdle = .next (s.advance (due - (s.now : Int)).toNat).commit := by
  simp [runOrIdle, halted, untilNextEvent, head]

/-- A step of a state without a fault whose iteration ends without one is that iteration (R190). -/
theorem step_of_iterate {s t : State} (running : s.fault = none) (it : s.iterate = .next t) (ok : t.fault = none) :
    step s = .next t := by
  simp only [step, running, it, ok]

/-- A step of a state without a fault whose iteration records one ends in it (R190, R199). -/
theorem step_of_fault {s t : State} {f : Fault} (running : s.fault = none) (it : s.iterate = .next t)
    (bad : t.fault = some f) : step s = .fault f := by
  simp only [step, running, it, bad]

/-- `Commit` moves neither the CPU nor the parameters (R488). -/
@[simp] theorem commit_cpu (s : State) : s.commit.cpu = s.cpu :=
  commit_keeps (fun s => s.cpu) (fun _ => rfl) (fun _ _ => rfl) (fun s h late => (fire_frame s h late).2.1) raiseFault_cpu s

@[simp] theorem commit_cfg (s : State) : s.commit.cfg = s.cfg :=
  commit_keeps (fun s => s.cfg) (fun _ => rfl) (fun _ _ => rfl) (fun s h late => (fire_frame s h late).1) raiseFault_cfg s

/-- `Commit` folds the staged cycles into the counter and moves it no further (R176). -/
theorem commit_clock (s : State) :
    s.commit.sched.cycle = s.sched.cycle + s.sched.staged ∧ s.commit.sched.staged = 0 := by
  refine commitLoop_induct (fun t => t.sched.cycle = s.sched.cycle + s.sched.staged ∧ t.sched.staged = 0) ?_ ?_ _ _ ⟨rfl, rfl⟩
  · intro t h due rest clock _ _ _
    obtain ⟨-, -, -, -, -, cycle, staged⟩ := fire_frame (t.setQueue rest) h ((t.sched.cycle : Int) - due)
    rw [cycle, staged]
    exact clock
  · intro t clock _
    rwa [raiseFault_sched]

/-- The lowest interrupt that is enabled and pending is the one taken (R487). -/
theorem lowestSet_serviceable {s : State} {i : Nat} (lt : i < 5) (enabled : s.irq.enable.getLsbD i = true)
    (pending : s.irq.pending.getLsbD i = true)
    (lowest : ∀ j, j < i → s.irq.enable.getLsbD j = false ∨ s.irq.pending.getLsbD j = false) :
    lowestSet s.serviceable = i := by
  have bit (j : Nat) : s.serviceable.getLsbD j = (s.irq.enable.getLsbD j && s.irq.pending.getLsbD j) := BitVec.getLsbD_and
  have clear (j : Nat) (lt : j < i) : s.serviceable.getLsbD j = false := by
    rw [bit, Bool.and_eq_false_iff]; exact lowest j lt
  have set : s.serviceable.getLsbD i = true := by rw [bit, enabled, pending]; rfl
  unfold lowestSet
  interval_cases i
  · rw [set]; rfl
  · rw [clear 0 (by decide), set]; rfl
  · rw [clear 0 (by decide), clear 1 (by decide), set]; rfl
  · rw [clear 0 (by decide), clear 1 (by decide), clear 2 (by decide), set]; rfl
  · rw [clear 0 (by decide), clear 1 (by decide), clear 2 (by decide), clear 3 (by decide)]; rfl

/-- Taking an interrupt is a call of its vector with IME and the pending flag cleared (R485). -/
theorem serviceInterrupt_eq (s : State) (i : Nat) :
    s.serviceInterrupt i = (((s.setIme false false).acknowledge i).callTo (intVector i)).charge intServiceMcycles := rfl

/-- With IME set, an enabled and pending interrupt is taken instead of an instruction (R191, R485). -/
theorem iterate_of_dispatch {s : State} (some : s.serviceable ≠ 0) (ime : s.cpu.ime = true) :
    s.iterate = .next (s.wake.serviceInterrupt (lowestSet s.serviceable)).commit := by
  unfold iterate
  rw [if_neg some]
  exact if_pos ime

end State

/-! ## The statements -/

/-- Settles O5: the window decodes to the instruction, which runs and is committed by the lemmas on each level. -/
theorem stepRunsInstruction : Obligations.StepRunsInstruction := by
  intro s t i rest running free read run ok okCommit
  have go (u : State) (awake : u.cpu.halted = false) (window : u.fetchWindow = s.fetchWindow)
      (pending : u.cpu.imePending = s.cpu.imePending)
      (start : u.skipBytes i.length =
        { s with cpu := { s.cpu with halted := false, pc := s.cpu.pc + BitVec.ofNat 16 i.length } }) :
      u.runOrIdle = .next (t.settleIme s.cpu.imePending).commit := by
    rw [← pending]
    have readU : decode u.fetchWindow = .ok (i, rest) := window ▸ read
    exact State.runOrIdle_next awake (State.cpuStep_next readU (start ▸ run)) (by simpa using ok)
  refine State.step_of_iterate running ?_ okCommit
  rcases free with ⟨none, awake⟩ | ⟨some, off⟩
  · rw [State.iterate_of_no_dispatch (.inl none), if_pos none]
    exact go s awake rfl rfl (by rw [← awake]; rfl)
  · rw [State.iterate_of_no_dispatch (.inr off), if_neg some]
    exact go s.wake rfl rfl rfl rfl

/-- Settles O6: the meaning of `illegal` is the fault, which the step that fetches it records. -/
theorem illegalOpcodeIsFatal : Obligations.IllegalOpcodeIsFatal := by
  refine ⟨fun _ _ => rfl, fun s running none awake illegal => ?_, fun s f faulted => by simp only [step, faulted]⟩
  have it : s.iterate = .next { s with fault := some (.undefinedOpcode (s.busRead s.cpu.pc) s.cpu.pc) } := by
    rw [State.iterate_of_no_dispatch (.inl none), if_pos none, State.runOrIdle_fault awake (State.cpuStep_illegal illegal),
      State.raiseFault_of_none running]
  exact ⟨it, State.step_of_fault running it rfl⟩

/-- Settles O7: both updates by their definitions. -/
theorem chargeAndRegisterWrite : Obligations.ChargeAndRegisterWrite := by
  intro s n v
  refine ⟨rfl, rfl, rfl, rfl, rfl, rfl, rfl, rfl, fun r r' => ?_⟩
  split
  · subst r'; exact s.reg_setReg_self r v
  · exact s.reg_setReg_other v ‹_›

/-- Settles O25: each form is its meaning; `EI` and `STOP` by the cases of their conditions. -/
theorem cpuControl : Obligations.CpuControl := by
  intro s n
  refine ⟨⟨rfl, rfl, rfl, rfl, rfl, rfl⟩, rfl, rfl, rfl, fun delay off => ?_, fun delay on => ?_, fun delay => ?_, rfl,
    fun cgb armed => ?_, fun not => ?_⟩
  · have run : exec Form.ei.instr s = (s.setIme false true).done 1 := by
      simp [exec_instr, execForm, runEi, delay, off]
    rw [run, ← off]; rfl
  · simp [exec_instr, execForm, runEi, delay, on, State.done]
  · simp [exec_instr, execForm, runEi, delay, State.done, State.setIme, State.setCpu]
  · simp [exec_instr, execForm, runStop, cgb, armed, State.done, State.setCpu]
  · have idle : (decide (s.cfg.model = .cgb) && s.cpu.speedArmed) = false := by
      rcases not with dmg | unarmed
      · rw [dmg]; rfl
      · rw [unarmed, Bool.and_false]
    simp [exec_instr, execForm, runStop, idle, State.done]

/-- Settles O26: the row that 0xCB selects is one that completes. -/
theorem prefixDispatches : Obligations.PrefixDispatches := by
  intro s
  obtain ⟨control, notIllegal, notCb⟩ := decodeExtended_plain (s.busRead s.cpu.pc)
  obtain ⟨t, n, -, -, run⟩ := execForm_completes _ (s.setPc (s.cpu.pc + 1)) control notIllegal notCb
  exact ⟨t.charge n, (exec_prefixCB s).trans run, (exec_instr _ _ notCb).trans run⟩

/-- Settles O30: a form that stores nothing updates the CPU only and is charged, on neither of which a read depends. -/
theorem registerFormsKeepMemory : Obligations.RegisterFormsKeepMemory := by
  intro s t f a run ne plain
  have notCb : f ≠ .prefixCB := by rintro rfl; exact plain
  rw [exec_instr f s notCb] at run
  have updated : ∃ c n, c.speed = s.cpu.speed ∧ c.speedArmed = s.cpu.speedArmed ∧
      execForm f s = .next ((s.setCpu c).charge n) := by
    by_cases control : f.controls = true
    · obtain ⟨c, n, update, -, eq⟩ := execForm_control f s control
      obtain ⟨speed, armed⟩ := update.speed (.inl (by rintro k rfl; exact plain))
      exact ⟨c, n, speed, armed, eq⟩
    · have noStore : f.stores = false := by cases f <;> first | rfl | exact plain.elim
      have notIllegal : ∀ op, f ≠ .illegal op := by rintro op rfl; nomatch run
      obtain ⟨u, n, touched, -, eq⟩ := execForm_completes f s (by simpa using control) notIllegal notCb
      rw [noStore] at touched
      obtain ⟨c, same, rfl⟩ := touched.only_cpu
      exact ⟨c, n, same.speed, same.speedArmed, eq⟩
  obtain ⟨c, n, speed, armed, eq⟩ := updated
  rw [eq] at run
  cases run
  rw [State.busRead_charge _ _ ne]
  exact State.busRead_congr (s := s) (t := s.setCpu c) rfl rfl rfl rfl rfl rfl rfl rfl rfl rfl speed armed ne

/-- What an instruction but 0xCB leaves as it was, by its form. -/
theorem execForm_keeps {f : Form} {s t : State} (run : execForm f s = .next t) (notCb : f ≠ .prefixCB) :
    (f ≠ .ei → f ≠ .di → f ≠ .reti → t.cpu.ime = s.cpu.ime ∧ t.cpu.imePending = s.cpu.imePending) ∧
    (f ≠ .halt → t.cpu.halted = s.cpu.halted) ∧ ((∀ n, f ≠ .stop n) → t.cpu.speed = s.cpu.speed) ∧
    t.cfg = s.cfg ∧ t.sched.cycle = s.sched.cycle ∧ t.sampleOut = s.sampleOut := by
  by_cases control : f.controls = true
  · obtain ⟨c, n, update, -, eq⟩ := execForm_control f s control
    rw [eq] at run
    cases run
    exact ⟨update.ime, update.halted, fun other => (update.speed (.inl other)).1, rfl, rfl, rfl⟩
  · have notIllegal : ∀ op, f ≠ .illegal op := by rintro op rfl; nomatch run
    obtain ⟨u, n, touched, -, eq⟩ := execForm_completes f s (by simpa using control) notIllegal notCb
    rw [eq] at run
    cases run
    obtain ⟨ime, pending, halted, speed, cfg, cycle, out⟩ := touched.frame
    exact ⟨fun _ _ _ => ⟨ime, pending⟩, fun _ => halted, fun _ => speed, cfg, cycle, out⟩

/-- Settles O31: by the instruction's form; 0xCB runs a form of the extended table, which writes no control bit. -/
theorem controlBitsChangeOnlyBy : Obligations.ControlBitsChangeOnlyBy := by
  intro s t i run
  by_cases cb : i = .prefixCB
  · subst cb
    rw [exec_prefixCB] at run
    obtain ⟨control, -, notCb⟩ := decodeExtended_plain (s.busRead s.cpu.pc)
    have other (f : Form) (h : f.controls = true) : decodeExtended (s.busRead s.cpu.pc) ≠ f := by
      rintro e; rw [e, h] at control; nomatch control
    obtain ⟨ime, halted, speed, rest⟩ := execForm_keeps run notCb
    exact ⟨fun _ _ _ => ime (other _ rfl) (other _ rfl) (other _ rfl), fun _ => halted (other _ rfl),
      fun _ => speed fun _ => other _ rfl, rest⟩
  · have ne (f : Form) (h : i ≠ f.instr) : i.form ≠ f := by
      rintro rfl; exact h i.instr_form.symm
    rw [exec_eq_execForm i s cb] at run
    obtain ⟨ime, halted, speed, rest⟩ := execForm_keeps run (ne .prefixCB cb)
    exact ⟨fun ei di reti => ime (ne .ei ei) (ne .di di) (ne .reti reti), fun halt => halted (ne .halt halt),
      fun stop => speed fun n => ne (.stop n) (stop n), rest⟩

/-- Settles O32: the interrupt taken is the lowest, and taking it is the push of PC and the jump. -/
theorem interruptDispatch : Obligations.InterruptDispatch := by
  intro s t u i ime lt enabled pending lowest first second
  have some : s.serviceable ≠ 0 := by
    intro none
    have bit : s.serviceable.getLsbD i = true := by
      rw [State.serviceable, BitVec.getLsbD_and, enabled, pending]; rfl
    rw [none] at bit
    exact Bool.false_ne_true (BitVec.getLsbD_zero.symm.trans bit)
  have high : (((s.wake.setIme false false).acknowledge i).setSp (s.cpu.sp - 1)).busWrite (s.cpu.sp - 1) s.cpu.pc.hi = t :=
    first.symm
  have low : (t.setSp (s.cpu.sp - 2)).busWrite (s.cpu.sp - 2) s.cpu.pc.lo = u := second.symm
  have call : ((s.wake.setIme false false).acknowledge i).callTo (intVector i) = u.setPc (intVector i) := by
    rw [← low, ← high]; exact callTo_eq _ _
  rw [State.iterate_of_dispatch some ime, State.lowestSet_serviceable lt enabled pending lowest, State.serviceInterrupt_eq,
    call]
  rfl

/-- Settles O33: nothing is staged and every event is ahead, so the jump ends at the head's due cycle. -/
theorem haltedFastForward : Obligations.HaltedFastForward := by
  rintro s t h due q halted none head ⟨staged, ahead, -⟩ rfl
  have later : (s.sched.cycle : Int) < due := ahead (h, due) (by rw [head]; exact List.mem_cons_self)
  have now : s.now = s.sched.cycle := by rw [State.now, staged, Nat.add_zero]
  have jump : s.advance (due - (s.now : Int)).toNat =
      { s with sched := { s.sched with staged := (due - (s.sched.cycle : Int)).toNat } } := by
    rw [now, State.advance, staged, Nat.zero_add]
  refine ⟨?_, later, ?_, State.commit_cpu _⟩
  · have idle : s.serviceable = 0 := none
    rw [State.iterate_of_no_dispatch (.inl idle), if_pos idle, State.runOrIdle_halted halted head, jump]
  · rw [(State.commit_clock _).1]
    simp only
    omega

end Machine

end Sys2Proof

/-! PROOFS. The address space (20_memory.md): the decoder window by window, what reads and writes of storage, of unmapped and
blocked places, of the cartridge and of the plain registers do, and the statements about them. -/

namespace Sys2Proof.Machine

/-! ## The decoder by windows -/

namespace State

/-- An unmapped boot image covers nothing (R44, R88). -/
theorem bootCovers_unmapped (rom : Option (List Byte)) (a : Nat) : bootCovers rom false a = false := by
  cases rom <;> rfl

section
variable {s : State} {a : Word}

/-- Below 0xC000 the rows of the cartridge and VRAM decide (R87). -/
theorem region_low (h : s.mems.bootMapped = false) (low : a.toNat < 0xC000) : s.region a = lowRegion s.mems.vbk a.toNat := by
  have row : a.toNat / 4096 < 0xC := by omega
  simp only [region, regionAt, h, bootCovers_unmapped, row, if_true, if_false, Bool.false_eq_true]

/-- From 0xC000 to 0xFDFF the rows of work RAM decide (R87). -/
theorem region_work (h : s.mems.bootMapped = false) (low : 0xC000 ≤ a.toNat) (high : a.toNat < 0xFE00) :
    s.region a = workRegion (wramBank s.cfg.model s.mems.svbk) a.toNat := by
  have notLow : ¬ a.toNat / 4096 < 0xC := by omega
  have row : a.toNat / 256 < 0xFE := by omega
  simp only [region, regionAt, h, bootCovers_unmapped, notLow, row, if_true, if_false, Bool.false_eq_true]

/-- From 0xFE00 on the rows of OAM, I/O and HRAM decide (R87). -/
theorem region_high (h : s.mems.bootMapped = false) (low : 0xFE00 ≤ a.toNat) :
    s.region a = highRegion s.cfg.model a.toNat := by
  have notLow : ¬ a.toNat / 4096 < 0xC := by omega
  have notWork : ¬ a.toNat / 256 < 0xFE := by omega
  simp only [region, regionAt, h, bootCovers_unmapped, notLow, notWork, if_false, Bool.false_eq_true]

end

/-- An address that decodes to a register is one of the I/O page (R87, R92). -/
theorem region_io_decode {s : State} {a : Word} {r : IoReg} (h : s.region a = .io r) :
    ∃ off, IoReg.decode s.cfg.model off = some r := by
  unfold region regionAt at h
  split at h
  · nomatch h
  split at h
  · unfold lowRegion at h
    split at h
    · nomatch h
    split at h <;> nomatch h
  split at h
  · unfold workRegion at h
    split at h <;> nomatch h
  unfold highRegion at h
  split at h
  · split at h <;> nomatch h
  split at h
  · unfold ioRegion at h
    split at h
    · cases h; exact ⟨_, ‹_›⟩
    · nomatch h
  split at h <;> nomatch h

/-- A register that only a CGB has decodes on a CGB only (R91). -/
theorem region_io_cgbOnly {s : State} {a : Word} {r : IoReg} (h : s.region a = .io r) (only : r.cgbOnly = true) :
    s.cfg.model = .cgb := by
  obtain ⟨off, decoded⟩ := region_io_decode h
  cases model : s.cfg.model with
  | cgb => rfl
  | dmg =>
    unfold IoReg.decode at decoded
    rw [model] at decoded
    split at decoded
    · split at decoded
      · nomatch decoded
      · rename_i shared
        cases decoded
        exact absurd (by rw [only]; rfl) shared
    · nomatch decoded

end State

/-- Settles O28: each window by the row of the decode table it is. -/
theorem addressMap : Obligations.AddressMap := by
  intro s a unmapped
  have lt := a.isLt
  refine ⟨fun h => ?_, fun low high => ?_, fun low high => ?_, fun low high => ?_, fun low high => ?_, fun low high => ?_,
    fun low high => ?_, fun low high => ?_, ?_, fun dmg listed => ?_⟩
  · rw [State.region_low unmapped (by omega), lowRegion]
    rcases h with rom | ⟨low, high⟩
    · rw [if_pos (by omega)]
    · rw [if_neg (by omega), if_neg (by omega)]
  · rw [State.region_low unmapped (by omega), lowRegion, if_neg (by omega), if_pos (by omega)]
    exact congrArg Region.vram (by omega)
  · rw [State.region_work unmapped low (by omega), workRegion, if_pos (by omega)]
    exact congrArg Region.wram (by omega)
  · rw [State.region_work unmapped (by omega) (by omega), workRegion, if_neg (by omega)]
    have bank : wramBank s.cfg.model s.mems.svbk = if s.cfg.model = .dmg then 1 else max 1 s.mems.svbk.toNat := by
      cases s.cfg.model <;> rfl
    have offset : a.toNat % 4096 = a.toNat - 0xD000 := by omega
    rw [bank, offset]
  · have back : (a - 0x2000).toNat = a.toNat - 0x2000 := by
      bv_omega
    rw [State.region_work unmapped (by omega) high, State.region_work unmapped (by omega) (by omega), back, workRegion,
      workRegion]
    have offset : (a.toNat - 0x2000) % 4096 = a.toNat % 4096 := by omega
    have row : (a.toNat - 0x2000) / 4096 = 0xC ∨ (a.toNat - 0x2000) / 4096 = 0xE ↔
      a.toNat / 4096 = 0xC ∨ a.toNat / 4096 = 0xE := by omega
    simp only [offset, row]
  · rw [State.region_high unmapped low, highRegion, if_pos (by omega), if_pos (by omega)]
    exact congrArg Region.oam (by omega)
  · rw [State.region_high unmapped (by omega), highRegion, if_pos (by omega), if_neg (by omega)]
  · rw [State.region_high unmapped (by omega), highRegion, if_neg (by omega), if_neg (by omega), if_pos (by omega)]
    exact congrArg Region.hram (by omega)
  · rintro rfl
    rw [State.region_high unmapped (by decide)]; rfl
  · simp only [List.mem_cons, List.not_mem_nil, or_false] at listed
    rcases listed with rfl | rfl | rfl | rfl | rfl | rfl | rfl | rfl | rfl | rfl | rfl | rfl <;>
      rw [State.region_high unmapped (by decide), dmg] <;> rfl

/-- Settles O29: both places by what a read and a write of their region are. -/
theorem fillsAndDroppedWrites : Obligations.FillsAndDroppedWrites := by
  intro s a v
  have blocked (on : s.ppu.lcdc.getLsbD 7 = true) (mode : s.ppu.mode = .transfer) : s.cpuBlocked = true := by
    simp [State.cpuBlocked, Ppu.on, on, mode]
  refine ⟨fun place => ?_, fun k place on mode => ?_, fun k place on mode => ?_⟩
  · simp only [State.busRead, State.busWrite, place]
    exact ⟨rfl, trivial⟩
  · simp only [State.busRead, State.busWrite, State.dmaRead, place, blocked on mode]
    exact ⟨rfl, rfl, rfl⟩
  · simp only [State.busRead, State.busWrite, State.dmaRead, place, blocked on mode]
    exact ⟨rfl, rfl, rfl⟩

/-! ## Writes of storage -/

/-- Read after write, at any two offsets. -/
theorem Memory.read_write {m : Memory} {size : Nat} (h : m.wf size = true) (k j : Nat) (v : Byte) :
    (m.write k v).read j = if j = k then v else m.read j := by
  split
  · subst j; exact read_write_self h k v
  · exact read_write_other h v ‹_›

/-- The memories with a byte stored at the place behind an address; a place that is no storage stores nothing. -/
def Mems.store (m : Mems) (r : Region) (v : Byte) : Mems :=
  match r with
  | .vram k => { m with vram := m.vram.write k v }
  | .wram k => { m with wram := m.wram.write k v }
  | .oam k => { m with oam := m.oam.write k v }
  | .hram k => { m with hram := m.hram.write k v }
  | .boot _ | .cart _ | .io _ | .unmapped | .ie => m

/-- The place is one of storage. -/
def Region.isStorage : Region → Bool
  | .vram _ | .wram _ | .oam _ | .hram _ => true
  | .boot _ | .cart _ | .io _ | .unmapped | .ie => false

/-- A place of VRAM or OAM, which Mode 3 blocks (R89). -/
def Region.isBlockable : Region → Bool
  | .vram _ | .oam _ => true
  | .wram _ | .hram _ | .boot _ | .cart _ | .io _ | .unmapped | .ie => false

namespace State

/-- A write to storage that is not blocked stores the byte there and changes nothing else (R85, R87). -/
theorem busWrite_storage {s : State} {a : Word} (storage : (s.region a).isStorage = true)
    (free : (s.region a).isBlockable = true → s.cpuBlocked = false) (v : Byte) :
    s.busWrite a v = s.setMems (s.mems.store (s.region a) v) := by
  unfold busWrite
  cases place : s.region a with
  | vram k | oam k => rw [place] at free; simp only [free rfl]; rfl
  | wram k | hram k => rfl
  | boot | cart | io | unmapped | ie => rw [place] at storage; nomatch storage

/-- The decoder sees no byte of storage. -/
theorem region_store (s : State) (r : Region) (v : Byte) (b : Word) : (s.setMems (s.mems.store r v)).region b = s.region b := by
  cases r <;> rfl

/-- Storing a byte of VRAM, WRAM, OAM or HRAM keeps the canonical form (R37 to R43). -/
theorem memWf_store {s : State} (wf : s.MemWf) {r : Region} (range : r.inRange s.cfg.model) (v : Byte) :
    (s.setMems (s.mems.store r v)).MemWf := by
  obtain ⟨vram, wram, oam, hram, others⟩ := wf
  cases r with
  | vram k => exact ⟨Memory.write_wf vram v range, wram, oam, hram, others⟩
  | wram k => exact ⟨vram, Memory.write_wf wram v range, oam, hram, others⟩
  | oam k => exact ⟨vram, wram, Memory.write_wf oam v range, hram, others⟩
  | hram k => exact ⟨vram, wram, oam, Memory.write_wf hram v range, others⟩
  | boot | cart | io | unmapped | ie => exact ⟨vram, wram, oam, hram, others⟩

/-- After a store every place reads as before but the place stored to (R84, R87). -/
theorem regionRead_store {s : State} (wf : s.MemWf) {p q : Region} (storage : p.isStorage = true) {blocked : Bool}
    (free : p.isBlockable = true → blocked = false) (v : Byte) :
    (s.setMems (s.mems.store p v)).regionRead blocked q = if q = p then v else s.regionRead blocked q := by
  obtain ⟨vram, wram, oam, hram, -⟩ := wf
  cases p with
  | vram k =>
    cases q with
    | vram j => rw [free rfl]; simp only [Region.vram.injEq]; exact Memory.read_write vram k j v
    | _ => rfl
  | wram k =>
    cases q with
    | wram j => simp only [Region.wram.injEq]; exact Memory.read_write wram k j v
    | _ => rfl
  | oam k =>
    cases q with
    | oam j => rw [free rfl]; simp only [Region.oam.injEq]; exact Memory.read_write oam k j v
    | _ => rfl
  | hram k =>
    cases q with
    | hram j => simp only [Region.hram.injEq]; exact Memory.read_write hram k j v
    | _ => rfl
  | boot | cart | io | unmapped | ie => nomatch storage

end State

/-- Settles O27: a store by `busWrite_storage`, what it shows by `regionRead_store`, its form by `memWf_store`. -/
theorem storageWrites : Obligations.StorageWrites := by
  refine ⟨fun s a v k => ⟨fun place free => ?_, fun place free => ?_, fun place => ?_, fun place => ?_⟩,
    fun m size k j v wf => Memory.read_write wf k j v, fun s a v wf dmg free => ?_⟩
  · simp only [State.busWrite, place, free]; rfl
  · simp only [State.busWrite, place, free]; rfl
  · simp only [State.busWrite, place]; rfl
  · simp only [State.busWrite, place]; rfl
  · have storage : (s.region a).isStorage = true ∧ ((s.region a).isBlockable = true → s.cpuBlocked = false) := by
      cases place : s.region a with
      | vram | oam => rw [place] at free; exact ⟨rfl, fun _ => free⟩
      | wram | hram => exact ⟨rfl, nofun⟩
      | boot | cart | io | unmapped | ie => rw [place] at free; exact free.elim
    obtain ⟨storage, free⟩ := storage
    rw [State.busWrite_storage storage free]
    refine ⟨fun b => ?_, State.memWf_store wf (s.region_inRange a dmg) v⟩
    simp only [State.busRead, State.region_store]
    exact State.regionRead_store wf storage free v

/-! ## Registers at their addresses -/

/-- The low bits of a byte are the byte modulo a power of two. -/
theorem extractLsb'_low (v : Byte) (n : Nat) : v.extractLsb' 0 n = BitVec.ofNat n (v.toNat % 2 ^ n) := by
  apply BitVec.eq_of_toNat_eq
  simp [BitVec.extractLsb'_toNat]

/-- IF reads its five flags under 0xE0 (R35). -/
theorem State.readIf_eq (s : State) : s.readIf = BitVec.ofNat 8 (0xE0 + s.irq.pending.toNat) := by
  unfold State.readIf
  generalize s.irq.pending = p
  revert p; decide

/-- STAT reads 1, its stored bits, the match flag and the mode (R46). -/
theorem Ppu.readStat_eq (p : Ppu) :
    p.readStat = BitVec.ofNat 8 (0x80 + 8 * p.statEn.toNat +
      (if p.lcdc.getLsbD 7 = true ∧ p.ly = p.lyc then 4 else 0) + p.mode.bits.toNat) := by
  have pack : ∀ (e : BitVec 4) (b : Bool) (m : BitVec 2),
      (1 : BitVec 1) ++ e ++ BitVec.ofBool b ++ m = BitVec.ofNat 8 (0x80 + 8 * e.toNat + (if b = true then 4 else 0) + m.toNat) := by
    decide
  rw [readStat, pack]
  simp [Ppu.on]

/-- KEY1 reads the speed and the armed bit (R33). -/
theorem State.readKey1_eq (s : State) :
    s.readKey1 = (if s.cpu.speed then 0x80 else 0) ||| 0x7E ||| (if s.cpu.speedArmed then 1 else 0) := by
  unfold State.readKey1
  cases s.cpu.speed <;> cases s.cpu.speedArmed <;> rfl

/-- VBK reads its bit under 0xFE, SVBK its three bits under 0xF8 (R37, R39). -/
theorem bankSelect_eq (b : BitVec 1) (w : BitVec 3) :
    (0x7F : BitVec 7) ++ b = BitVec.ofNat 8 (0xFE + b.toNat) ∧ (0x1F : BitVec 5) ++ w = BitVec.ofNat 8 (0xF8 + w.toNat) := by
  revert b w; decide

/-- IE is decoded at 0xFFFF, whatever else is (R87, R88). -/
theorem State.region_ie {s : State} (h : s.cfg.Admissible) : s.region 0xFFFF = .ie := by
  have above : bootCovers s.cfg.bootRom s.mems.bootMapped 0xFFFF = false := State.bootCovers_above h (by decide)
  change (if bootCovers s.cfg.bootRom s.mems.bootMapped 0xFFFF = true then Region.boot 0xFFFF else _) = _
  rw [above]
  rfl

/-- What a write of 0xFF50 leaves mapped (R44). -/
theorem State.writeBootOff_eq (s : State) (v : Byte) :
    s.writeBootOff v = { s with mems := { s.mems with bootMapped := s.mems.bootMapped && decide (v = 0) } } := by
  unfold State.writeBootOff
  split
  · rename_i zero; simp only [zero, decide_true, Bool.and_true]
  · rename_i nonzero; simp only [nonzero, decide_false, Bool.and_false]; rfl

/-- A register that every variant has is read and written at its address (R92). -/
theorem State.io_shared {s : State} (h : s.cfg.Admissible) (off : Nat) (r : IoReg) (v : Byte)
    (row : off < 128 ∧ IoReg.ofOffset off = some r ∧ r.cgbOnly = false) :
    s.busRead (BitVec.ofNat 16 (0xFF00 + off)) = s.ioRead r ∧
      s.busWrite (BitVec.ofNat 16 (0xFF00 + off)) v = s.ioWrite r v := by
  obtain ⟨lt, entry, shared⟩ := row
  have decoded : IoReg.decode s.cfg.model off = some r := by simp [IoReg.decode, entry, shared]
  exact ⟨State.busRead_io h lt decoded, State.busWrite_io h lt decoded v⟩

/-- Every register is read and written at its address on a CGB (R92). -/
theorem State.io_cgb {s : State} (h : s.cfg.Admissible) (cgb : s.cfg.model = .cgb) (off : Nat) (r : IoReg) (v : Byte)
    (row : off < 128 ∧ IoReg.ofOffset off = some r) :
    s.busRead (BitVec.ofNat 16 (0xFF00 + off)) = s.ioRead r ∧
      s.busWrite (BitVec.ofNat 16 (0xFF00 + off)) v = s.ioWrite r v := by
  obtain ⟨lt, entry⟩ := row
  have decoded : IoReg.decode s.cfg.model off = some r := by simp [IoReg.decode, entry, cgb]
  exact ⟨State.busRead_io h lt decoded, State.busWrite_io h lt decoded v⟩

/-! ## The cartridge -/

section
variable {s : State} {a : Word} {k : Nat}

/-- A read of a cartridge window shows what the cartridge makes of the address (R112). -/
theorem State.busRead_cart (place : s.region a = .cart k) : s.busRead a = s.cart.read k := by
  simp only [State.busRead, place, State.regionRead]

/-- A write of a cartridge window is the cartridge's (R112). -/
theorem State.busWrite_cart_eq (place : s.region a = .cart k) (v : Byte) : s.busWrite a v = s.cartWrite a v := by
  simp only [State.busWrite, place]

end

/-- A cartridge write changes what the cartridge remembers and nothing else (R112). -/
theorem State.cartWrite_hidden (s : State) (a : Word) (v : Byte) :
    ∃ hidden, s.cartWrite a v = { s with cart := { s.cart with hidden := hidden } } := by
  unfold State.cartWrite
  split
  · exact ⟨s.cart.hidden, rfl⟩
  · exact ⟨_, rfl⟩

/-- Settles O37: each register by its row of the I/O table; the cartridge by its read and its write. -/
theorem registersAndDevices : Obligations.RegistersAndDevices := by
  refine ⟨fun s v h => ?_, fun s a v k place => ⟨fun t placeT same => ?_, fun plain rom inside => ?_, ?_, fun plain dropped => ?_⟩⟩
  · have io := State.io_shared (v := v) h
    have ie := State.region_ie h
    have low5 : BitVec.ofNat 5 (v.toNat % 32) = v.extractLsb' 0 5 := (extractLsb'_low v 5).symm
    refine ⟨⟨?_, ?_, ?_, ?_⟩, ⟨(io 0x50 .bootOff (by decide)).1, ?_⟩,
      ⟨(io 0x40 .lcdc (by decide)).1, (io 0x44 .ly (by decide)).1, (io 0x44 .ly (by decide)).2, (io 0x45 .lyc (by decide)).1,
        (io 0x46 .dma (by decide)).1, ?_⟩, ?_, fun cgb => ?_, ?_⟩
    · exact (io 0x0F .ifl (by decide)).1.trans s.readIf_eq
    · rw [low5]; exact (io 0x0F .ifl (by decide)).2
    · simp only [State.busRead, ie, State.regionRead, State.readIe]
      exact BitVec.eq_of_toNat_eq (by simp)
    · simp only [State.busWrite, ie, low5]; rfl
    · exact (io 0x50 .bootOff (by decide)).2.trans (s.writeBootOff_eq v)
    · exact (io 0x41 .stat (by decide)).1.trans s.ppu.readStat_eq
    · obtain ⟨scyRead, scyWrite⟩ := io 0x42 .scy (by decide)
      obtain ⟨scxRead, scxWrite⟩ := io 0x43 .scx (by decide)
      obtain ⟨bgpRead, bgpWrite⟩ := io 0x47 .bgp (by decide)
      obtain ⟨obp0Read, obp0Write⟩ := io 0x48 .obp0 (by decide)
      obtain ⟨obp1Read, obp1Write⟩ := io 0x49 .obp1 (by decide)
      obtain ⟨wyRead, wyWrite⟩ := io 0x4A .wy (by decide)
      obtain ⟨wxRead, wxWrite⟩ := io 0x4B .wx (by decide)
      exact ⟨scyRead, scyWrite, scxRead, scxWrite, bgpRead, bgpWrite, obp0Read, obp0Write, obp1Read, obp1Write, wyRead,
        wyWrite, wxRead, wxWrite⟩
    · have ioCgb := State.io_cgb (v := v) h cgb
      obtain ⟨key1Read, key1Write⟩ := ioCgb 0x4D .key1 (by decide)
      obtain ⟨vbkRead, vbkWrite⟩ := ioCgb 0x4F .vbk (by decide)
      obtain ⟨svbkRead, svbkWrite⟩ := ioCgb 0x70 .svbk (by decide)
      obtain ⟨vbkValue, svbkValue⟩ := bankSelect_eq s.mems.vbk s.mems.svbk
      have low1 : BitVec.ofNat 1 (v.toNat % 2) = v.extractLsb' 0 1 := (extractLsb'_low v 1).symm
      have low3 : BitVec.ofNat 3 (v.toNat % 8) = v.extractLsb' 0 3 := (extractLsb'_low v 3).symm
      rw [low1, low3]
      exact ⟨key1Read.trans s.readKey1_eq, key1Write, vbkRead.trans vbkValue, vbkWrite, svbkRead.trans svbkValue, svbkWrite⟩
    · obtain ⟨joypRead, joypWrite⟩ := io 0x00 .joyp (by decide)
      obtain ⟨sbRead, sbWrite⟩ := io 0x01 .sb (by decide)
      obtain ⟨scRead, scWrite⟩ := io 0x02 .sc (by decide)
      exact ⟨joypRead, sbRead, scRead, ⟨_, joypWrite⟩, ⟨_, sbWrite⟩, ⟨_, scWrite⟩⟩
  · rw [State.busRead_cart place, State.busRead_cart placeT, same]
  · simp [State.busRead_cart place, Cart.read, Cart.showsRom, plain, rom, inside]
  · rw [State.busWrite_cart_eq place]
    exact s.cartWrite_hidden a v
  · have drops : s.cart.drops a.toNat = true := by
      rw [← State.region_cart place]
      simpa [Cart.drops, plain] using dropped
    rw [State.busWrite_cart_eq place, State.cartWrite, if_pos drops]

end Sys2Proof.Machine

/-! PROOFS. The PPU (46_ppu.md): the STAT line, display off and on, palette memory, the line state machine, the OAM scan and
the rendering of a line, and the statements about them. -/

namespace Sys2Proof.Machine

/-! ## The STAT line -/

namespace State

/-- `StatUpdate` records the level of the STAT line, 0 with the display off, and requests the interrupt on a rise (R333). -/
theorem statUpdate_eq (s : State) :
    s.statUpdate =
      { s with
        ppu := { s.ppu with statPrev := s.ppu.on && s.ppu.statLevel }
        irq := { s.irq with
          pending := if (s.ppu.on && s.ppu.statLevel) = true ∧ s.ppu.statPrev = false then s.irq.pending ||| 2
            else s.irq.pending } } := by
  unfold statUpdate
  cases on : s.ppu.on with
  | false => rfl
  | true =>
    cases level : s.ppu.statLevel with
    | false => rfl
    | true => cases s.ppu.statPrev <;> rfl

@[simp] theorem statUpdate_ppu (s : State) :
    s.statUpdate.ppu = { s.ppu with statPrev := s.ppu.on && s.ppu.statLevel } := by
  rw [statUpdate_eq]

/-- `StatUpdate` never requests the VBlank interrupt. -/
@[simp] theorem statUpdate_vblank (s : State) : s.statUpdate.irq.pending[0] = s.irq.pending[0] := by
  rw [statUpdate_eq]
  split <;> simp

end State

/-- Settles O38: the re-evaluation is `statUpdate_eq`; the two writes by their rows of the I/O table. -/
theorem statInterruptOnRise : Obligations.StatInterruptOnRise := by
  intro s v lvl h
  refine ⟨?_, (State.io_shared h 0x41 .stat v (by decide)).2, (State.io_shared h 0x45 .lyc v (by decide)).2⟩
  rintro rfl
  exact s.statUpdate_eq

/-! ## Display off and on -/

namespace State

/-- `Schedule` after `Cancel` of the same handle, the scheduler untouched between them, replaces the entry (R173, R175). -/
theorem schedule_of_cancelled {s t : State} {h : Handle} (same : t.sched = (s.cancel h).sched) (d : Int) :
    t.schedule h d =
      { t with sched := { s.sched with queue := enqueue h ((s.now : Int) + d) (dequeue h s.sched.queue) } } := by
  have idle : t.isPending h = false := by
    simp [isPending, same]
  rw [schedule_idle idle, now, same]
  simp only [setQueue, same]
  rfl

/-- Display off, on one state update (R335). -/
theorem displayOff_eq (s : State) :
    s.displayOff =
      { s with
        ppu := { s.ppu with
          ly := 0, mode := .hblank, phase := .off, lineStart := (s.now : Int), statPrev := false, windowLine := 0, scan := []
          m3Extra := 0, fb := [] }
        sched := { s.sched with queue := enqueue .ppu ((s.now : Int) + 70224) (dequeue .ppu s.sched.queue) } } :=
  schedule_of_cancelled (s := s) (h := .ppu) (t := (s.cancel .ppu).setPpu { s.ppu with
    ly := 0, mode := .hblank, phase := .off, lineStart := (s.now : Int), statPrev := false, windowLine := 0, scan := []
    m3Extra := 0, fb := [] }) rfl _

/-- Display on: line 0 in Mode 2 with the STAT line re-evaluated, and its end due 80 cycles ahead (R337). -/
theorem displayOn_eq (s : State) {t : State}
    (ht : t = State.statUpdate { s with
      ppu := { s.ppu with
        ly := 0, mode := .oamScan, phase := .m2, lineStart := (s.now : Int), windowLine := 0, skipFrame := true }
      sched := { s.sched with queue := dequeue .ppu s.sched.queue } }) :
    s.displayOn =
      { t with sched := { t.sched with queue := enqueue .ppu ((s.now : Int) + 80) (dequeue .ppu s.sched.queue) } } := by
  have sched : t.sched = (s.cancel .ppu).sched := by rw [ht]; exact statUpdate_sched _
  have on : s.displayOn = t.schedule .ppu m2Cycles := by rw [ht]; rfl
  rw [on, schedule_of_cancelled sched, sched]
  rfl

/-- A write of LCDC by the old and the new display bit (R352). -/
theorem writeLcdc_eq (s : State) (v : Byte) :
    s.writeLcdc v =
      if s.ppu.lcdc.getLsbD 7 = v.getLsbD 7 then s.setPpu { s.ppu with lcdc := v }
      else if v.getLsbD 7 = true then (s.setPpu { s.ppu with lcdc := v }).displayOn
      else (s.setPpu { s.ppu with lcdc := v }).displayOff := by
  have on : s.ppu.on = s.ppu.lcdc.getLsbD 7 := rfl
  unfold writeLcdc
  rw [on]
  cases s.ppu.lcdc.getLsbD 7 <;> cases v.getLsbD 7 <;> rfl

end State

/-- Settles O39: the three cases of `writeLcdc_eq`. -/
theorem displayOffAndOn : Obligations.DisplayOffAndOn := by
  rintro s v q h rfl
  have write : s.busWrite 0xFF40 v = s.writeLcdc v := (State.io_shared h 0x40 .lcdc v (by decide)).2
  rw [write, State.writeLcdc_eq]
  refine ⟨fun same => if_pos same, fun on off => ?_, fun off on => ⟨_, rfl, ?_⟩⟩
  · rw [on, off, if_neg nofun, if_neg nofun, State.displayOff_eq]
    rfl
  · rw [on, off, if_neg nofun, if_pos rfl, State.displayOn_eq _ rfl]
    rfl

/-! ## Palette memory -/

/-- The index after a data write: one further modulo 64 if the increment bit is set (R362). -/
theorem PalIndex.next_eq (p : PalIndex) :
    p.next = { p with index := BitVec.ofNat 6 ((p.index.toNat + p.inc.toNat) % 64) } := by
  obtain ⟨inc, index⟩ := p
  cases inc
  · have same : BitVec.ofNat 6 ((index.toNat + false.toNat) % 64) = index :=
      BitVec.eq_of_toNat_eq (by simp [Nat.mod_eq_of_lt index.isLt])
    rw [same]; rfl
  · have moved : BitVec.ofNat 6 ((index.toNat + true.toNat) % 64) = index + 1 :=
      BitVec.eq_of_toNat_eq (by simp [BitVec.toNat_add])
    rw [moved]; rfl

/-- Settles O40: the registers by their rows of the I/O table, the palettes by read after write. -/
theorem paletteAccess : Obligations.PaletteAccess := by
  rintro s v h cgb ⟨-, -, -, -, -, bgPal, objPal, -, -⟩
  have io := State.io_cgb (v := v) h cgb
  refine ⟨(io 0x68 .bcps (by decide)).2, (io 0x6A .ocps (by decide)).2, (io 0x69 .bcpd (by decide)).1,
    (io 0x6B .ocpd (by decide)).1, ⟨_, ?_, fun k => Memory.read_write bgPal _ k v⟩, ⟨_, ?_, fun k => Memory.read_write objPal _ k v⟩⟩
  · rw [← s.ppu.bcps.next_eq]; exact (io 0x69 .bcpd (by decide)).2
  · rw [← s.ppu.ocps.next_eq]; exact (io 0x6B .ocpd (by decide)).2

/-! ## The line state machine -/

namespace State

/-- What `EV_PPU` makes of the state before it re-arms itself (R330). -/
def ppuTurn (s : State) (late : Int) : State :=
  match s.ppu.phase with
  | .off => s.setPpu { s.ppu with frame := s.ppu.frame + 1 }
  | .m2 => s.transferEntry
  | .m3 => s.hblankEntry
  | .m0 =>
    if s.ppu.ly = 143 then
      ((s.setPpu { s.ppu with ly := 144, lineStart := (s.sched.cycle : Int) - late, phase := .m1, mode := .vblank
                 }).requestInterrupt 0).statUpdate
    else
      (s.setPpu { s.ppu with ly := s.ppu.ly + 1, lineStart := (s.sched.cycle : Int) - late, phase := .m2, mode := .oamScan
                }).statUpdate
  | .m1 =>
    if s.ppu.ly = 153 then
      (s.setPpu { s.ppu with
        lineStart := (s.sched.cycle : Int) - late, ly := 0, frame := s.ppu.frame + 1, skipFrame := false, windowLine := 0
        phase := .m2, mode := .oamScan }).statUpdate
    else (s.setPpu { s.ppu with lineStart := (s.sched.cycle : Int) - late, ly := s.ppu.ly + 1 }).statUpdate

/-- The cycles until the next `EV_PPU` (R320 to R323). -/
def ppuWait (s : State) : Int :=
  match s.ppu.phase with
  | .off => 70224
  | .m2 => 172 + s.m3ExtraOf (s.oamScan s.ppu.ly.toNat).length
  | .m3 => 204 - s.ppu.m3Extra
  | .m0 => if s.ppu.ly = 143 then 456 else 80
  | .m1 => if s.ppu.ly = 153 then 80 else 456

/-- The VRAM DMA step of an HBlank leaves the PPU alone. -/
@[simp] theorem hblankDmaStep_ppu (s : State) : s.hblankDmaStep.ppu = s.ppu :=
  hblankDmaStep_keeps (fun s => s.ppu) (fun _ => rfl) (fun _ _ => rfl) s

/-- The VRAM DMA step of an HBlank requests no interrupt. -/
@[simp] theorem hblankDmaStep_irq (s : State) : s.hblankDmaStep.irq = s.irq :=
  hblankDmaStep_keeps (fun s => s.irq) (fun _ => rfl) (fun _ _ => rfl) s

/-- HBlank entry up to the VRAM DMA: Mode 0, the line drawn unless the frame is skipped (R330). -/
def hblankPicture (s : State) : State :=
  if s.ppu.skipFrame then s.setPpu { s.ppu with phase := .m0, mode := .hblank }
  else (s.setPpu { s.ppu with phase := .m0, mode := .hblank }).renderLine s.ppu.ly.toNat

theorem hblankEntry_eq (s : State) : s.hblankEntry = s.hblankPicture.statUpdate.hblankDmaStep := rfl

/-- Of the PPU an HBlank entry changes phase and mode, and perhaps the framebuffer and the window's line counter. -/
theorem hblankPicture_eq (s : State) :
    ∃ fb w, s.hblankPicture = s.setPpu { s.ppu with phase := .m0, mode := .hblank, fb := fb, windowLine := w } := by
  unfold hblankPicture
  split
  · exact ⟨_, _, rfl⟩
  · exact ⟨_, _, rfl⟩

/-- An HBlank entry leaves the latched lengthening of Mode 3 alone. -/
theorem hblankEntry_m3Extra (s : State) : s.hblankEntry.ppu.m3Extra = s.ppu.m3Extra := by
  obtain ⟨fb, w, picture⟩ := s.hblankPicture_eq
  simp [hblankEntry_eq, picture]

/-- `EV_PPU` is its turn and then one `Schedule` of itself (R330). -/
theorem ppuEvent_eq (s : State) (late : Int) :
    s.ppuEvent late = (s.ppuTurn late).schedule .ppu (s.ppuWait - late) := by
  unfold ppuEvent ppuTurn ppuWait
  cases s.ppu.phase with
  | off => rfl
  | m2 => simp [transferEntry, m3Base]
  | m3 =>
    have wait : (lineCycles : Int) - m2Cycles - m3Base - s.ppu.m3Extra = 204 - s.ppu.m3Extra := by
      simp [lineCycles, m2Cycles, m3Base]
    simp only [hblankEntry_m3Extra, wait]
  | m0 =>
    have next : s.ppu.ly + 1 = 144 ↔ s.ppu.ly = 143 := by bv_omega
    by_cases last : s.ppu.ly = 143
    · simp only [setPpu_ppu, last]
      rfl
    · simp only [setPpu_ppu, next, if_neg last]
      rfl
  | m1 =>
    by_cases last : s.ppu.ly = 153
    · simp only [setPpu_ppu, last, if_true]
      rfl
    · simp only [setPpu_ppu, last, if_false]
      rfl

/-- The turn leaves the scheduler alone. -/
@[simp] theorem ppuTurn_sched (s : State) (late : Int) : (s.ppuTurn late).sched = s.sched := by
  unfold ppuTurn
  cases s.ppu.phase with
  | off => rfl
  | m2 => simp [transferEntry]
  | m3 => exact s.hblankEntry_sched
  | m0 => simp only; split <;> simp
  | m1 => simp only; split <;> simp

/-- `EV_PPU` in a state between cycles: the turn, and the event queued again `ppuWait` after it was due. -/
theorem ppuEvent_idle {s : State} {late due : Int} (at_due : due = (s.sched.cycle : Int) - late) (staged : s.sched.staged = 0)
    (idle : s.isPending .ppu = false) :
    s.ppuEvent late = (s.ppuTurn late).setQueue (enqueue .ppu (due + s.ppuWait) s.sched.queue) := by
  have idle' : (s.ppuTurn late).isPending .ppu = false := by simpa [isPending] using idle
  have now : ((s.ppuTurn late).now : Int) + (s.ppuWait - late) = due + s.ppuWait := by
    simp only [State.now, ppuTurn_sched, staged]; omega
  rw [ppuEvent_eq, schedule_idle idle', now, ppuTurn_sched]

end State

/-- Settles O41: `ppuEvent_idle`, phase by phase. -/
theorem lineStateMachine : Obligations.LineStateMachine := by
  rintro s t late due at_due staged - idle rfl
  rw [State.ppuEvent_idle at_due staged idle]
  refine ⟨fun ph => ?_, fun ph => ?_, fun ph => ?_, fun ph line => ?_, fun ph line => ?_, fun ph line => ?_, fun ph line => ?_⟩
  · simp only [State.ppuTurn, State.ppuWait, ph]; rfl
  · simp [State.ppuTurn, State.ppuWait, ph, State.transferEntry, add_assoc]
  · obtain ⟨fb, w, picture⟩ := s.hblankPicture_eq
    simp [State.ppuTurn, State.ppuWait, ph, State.hblankEntry_eq, picture, add_sub_assoc]
  · simp only [State.ppuTurn, State.ppuWait, ph, if_pos line]
    simp [State.requestInterrupt, at_due]
  · simp only [State.ppuTurn, State.ppuWait, ph, if_neg line]
    simp [at_due]
  · simp only [State.ppuTurn, State.ppuWait, ph, if_pos line]
    simp [at_due]
  · simp only [State.ppuTurn, State.ppuWait, ph, if_neg line]
    simp [at_due]

/-! ## The OAM scan -/

theorem State.mem_coveringSprites {s : State} {ly i : Nat} :
    i ∈ (List.range 40).filter (s.spriteOnLine ly) ↔
      i < 40 ∧ (s.mems.oam.read (4 * i)).toNat ≤ ly + 16 ∧
        ly + 16 < (s.mems.oam.read (4 * i)).toNat + (if s.ppu.lcdc.getLsbD 2 then 16 else 8) := by
  simp [State.spriteOnLine, Ppu.spriteHeight]

/-- Settles O42: the scan is the first ten of the covering entries, which stand in ascending order. -/
theorem oamScanSelects : Obligations.OamScanSelects := by
  intro s ly
  have ascending : ((List.range 40).filter (s.spriteOnLine ly)).Pairwise (fun i j => i < j) :=
    List.pairwise_lt_range.filter _
  refine ⟨List.length_take_le 10 _, ascending.take, fun i listed => State.mem_coveringSprites.1 (List.mem_of_mem_take listed),
    fun i small top bottom => ?_⟩
  have covering := State.mem_coveringSprites.2 ⟨small, top, bottom⟩
  rw [← List.take_append_drop 10 ((List.range 40).filter (s.spriteOnLine ly))] at covering ascending
  rcases List.mem_append.1 covering with listed | left
  · exact .inl listed
  · have full : 10 < ((List.range 40).filter (s.spriteOnLine ly)).length := by
      have := List.length_pos_of_mem left
      rw [List.length_drop] at this; omega
    exact .inr ⟨by simpa [State.oamScan, spritesPerLine] using full.le,
      fun j listed => (List.pairwise_append.1 ascending).2.2 j listed i left⟩

/-! ## Rendering a line: a fold of single writes -/

section Fold

variable {α β : Type} [DecidableEq β] {dflt : β} {key : α → Nat} {val : α → β}

/-- A fold of writes below the bound keeps the canonical form. -/
theorem sparseWf_foldl {hi : Nat} (l : List α) (m : List (Nat × β)) (wf : sparseWf dflt hi 0 m = true)
    (small : ∀ x ∈ l, key x < hi) : sparseWf dflt hi 0 (l.foldl (fun m x => sparseSet dflt m (key x) (val x)) m) = true := by
  induction l generalizing m with
  | nil => exact wf
  | cons x l ih =>
    rw [List.forall_mem_cons] at small
    exact ih _ (sparseSet_wf m (key x) (val x) hi 0 wf (Nat.zero_le _) small.1) small.2

/-- A key that no write of the fold names keeps its value. -/
theorem sparseGet_foldl_other {hi : Nat} {k : Nat} (l : List α) (m : List (Nat × β)) (wf : sparseWf dflt hi 0 m = true)
    (small : ∀ x ∈ l, key x < hi) (other : ∀ x ∈ l, key x ≠ k) :
    sparseGet dflt (l.foldl (fun m x => sparseSet dflt m (key x) (val x)) m) k = sparseGet dflt m k := by
  induction l generalizing m with
  | nil => rfl
  | cons x l ih =>
    rw [List.forall_mem_cons] at small other
    rw [List.foldl_cons, ih _ (sparseSet_wf m (key x) (val x) hi 0 wf (Nat.zero_le _) small.1) small.2 other.2,
      sparseGet_sparseSet_other m (key x) k (val x) hi 0 wf other.1.symm]

/-- With distinct keys, each key holds its own value after the fold. -/
theorem sparseGet_foldl_self {hi : Nat} (l : List α) (m : List (Nat × β)) (wf : sparseWf dflt hi 0 m = true)
    (small : ∀ x ∈ l, key x < hi) (distinct : l.Pairwise (fun x y => key x ≠ key y)) {x : α} (mem : x ∈ l) :
    sparseGet dflt (l.foldl (fun m x => sparseSet dflt m (key x) (val x)) m) (key x) = val x := by
  induction l generalizing m with
  | nil => cases mem
  | cons y l ih =>
    rw [List.forall_mem_cons] at small
    obtain ⟨apart, distinct⟩ := List.pairwise_cons.1 distinct
    have wf' := sparseSet_wf m (key y) (val y) hi 0 wf (Nat.zero_le _) small.1
    rw [List.foldl_cons]
    rcases List.mem_cons.1 mem with rfl | mem
    · rw [sparseGet_foldl_other l _ wf' small.2 fun z hz => (apart z hz).symm]
      exact sparseGet_sparseSet_self m (key x) (val x) hi 0 wf
    · exact ih _ wf' small.2 distinct mem

end Fold

namespace State

/-- The keys of a line's pixels are distinct. -/
theorem lineKeys_distinct (ly : Nat) : (List.range screenW).Pairwise fun x y => screenW * ly + x ≠ screenW * ly + y :=
  List.pairwise_lt_range.imp fun lt => by omega

/-- The keys of a line's pixels are keys of the framebuffer. -/
theorem lineKeys_small {ly : Nat} (h : ly < 144) : ∀ x ∈ List.range screenW, screenW * ly + x < screenW * screenH := by
  intro x hx
  rw [List.mem_range] at hx
  simp only [screenW, screenH] at hx ⊢
  omega

/-- Drawing a line keeps the framebuffer in canonical form. -/
theorem drawLine_wf {s : State} {ly : Nat} (wf : sparseWf s.blankColour (screenW * screenH) 0 s.ppu.fb = true)
    (h : ly < 144) : sparseWf s.blankColour (screenW * screenH) 0 (s.drawLine ly) = true :=
  sparseWf_foldl _ _ wf (lineKeys_small h)

@[simp] theorem setPpu_blankColour (s : State) (p : Ppu) : (s.setPpu p).blankColour = s.blankColour := rfl

/-- The pixels of the line drawn, and the others kept (R343). -/
theorem drawLine_get {s : State} {ly x y : Nat} (wf : sparseWf s.blankColour (screenW * screenH) 0 s.ppu.fb = true)
    (h : ly < 144) (hx : x < 160) :
    sparseGet s.blankColour (s.drawLine ly) (screenW * y + x) = if y = ly then s.pixelAt ly x else s.fbPixel x y := by
  split
  case isTrue same =>
    subst same
    exact sparseGet_foldl_self _ _ wf (lineKeys_small h) (lineKeys_distinct y) (List.mem_range.2 hx)
  case isFalse apart =>
    refine sparseGet_foldl_other _ _ wf (lineKeys_small h) fun z hz => ?_
    rw [List.mem_range] at hz
    simp only [screenW] at hz ⊢
    omega

end State

/-- Settles O43: `drawLine_get`, and the frame of `renderLine`. -/
theorem renderLineFrame : Obligations.RenderLineFrame := by
  intro s ly wf h
  obtain ⟨-, -, -, -, -, -, -, -, fb⟩ := wf
  refine ⟨fun x y hx _ => ?_, s.drawLine ly, _, State.renderLine_eq s ly, rfl⟩
  rw [State.fbPixel, State.renderLine_eq, State.setPpu_blankColour, State.setPpu_ppu, State.drawLine_get fb h hx]

end Sys2Proof.Machine

/-! PROOFS. The DMA engines (49_dma.md): OAM DMA and VRAM DMA, and the statements about them. -/

namespace Sys2Proof.Machine

/-! ## OAM DMA -/

/-- A fold of writes at distinct offsets leaves at each offset what was written there. -/
theorem Memory.read_foldl_write {α : Type} {m : Memory} {size : Nat} {key : α → Nat} {val : α → Byte} {l : List α}
    (wf : m.wf size = true) (small : ∀ x ∈ l, key x < size) (distinct : l.Pairwise fun x y => key x ≠ key y) {x : α}
    (mem : x ∈ l) : (l.foldl (fun m x => m.write (key x) (val x)) m).read (key x) = val x :=
  sparseGet_foldl_self l m wf small distinct mem

/-- The source of byte `i` of an OAM DMA by numbers (R453). -/
theorem State.oamDmaSource_eq (s : State) {i : Nat} (h : i < 160) :
    s.oamDmaSource i =
      BitVec.ofNat 16 (s.dma.page.toNat * 256 + i) - (if 0xE0 ≤ s.dma.page.toNat then 0x2000 else 0) := by
  have plain : Word.ofBytes s.dma.page (BitVec.ofNat 8 i) = BitVec.ofNat 16 (s.dma.page.toNat * 256 + i) := by
    apply BitVec.eq_of_toNat_eq
    have := s.dma.page.isLt
    have low : i % 2 ^ 8 < 2 ^ 8 := Nat.mod_lt _ (by decide)
    simp only [Word.ofBytes, BitVec.toNat_append, BitVec.toNat_ofNat]
    rw [← Nat.shiftLeft_add_eq_or_of_lt low, Nat.shiftLeft_eq]
    omega
  unfold State.oamDmaSource
  rw [plain]
  by_cases fold : s.dma.page.toNat < 0xE0
  · simp [BitVec.lt_def, fold, Nat.not_le.2 fold]
  · simp [BitVec.lt_def, fold, Nat.not_lt.1 fold]

/-- Settles O44: the write by its row of the I/O table, the copy as a fold of writes at distinct offsets. -/
theorem oamDmaCopies : Obligations.OamDmaCopies := by
  intro s v h
  have write : s.busWrite 0xFF46 v = s.writeDma v := (State.io_shared h 0x46 .dma v (by decide)).2
  refine ⟨?_, fun wf => ⟨⟨_, rfl⟩, fun i small => ?_⟩⟩
  · rw [write, State.writeDma, State.schedule_cancel]
    rfl
  · obtain ⟨-, -, oam, -⟩ := wf
    simp only [← s.oamDmaSource_eq small, State.oamDmaEvent, State.setMems_mems, oamDmaLen]
    exact Memory.read_foldl_write (key := fun i => i) oam (fun x hx => List.mem_range.1 hx) List.nodup_range
      (List.mem_range.2 small)

/-! ## VRAM DMA -/

namespace State

/-- One byte of a VRAM DMA, on one state update (R464). -/
theorem vdmaCopyByte_eq (s : State) :
    s.vdmaCopyByte =
      { s with
        mems := { s.mems with
          vram := s.mems.vram.write (8192 * s.mems.vbk.toNat + (s.dma.dst - 0x8000).toNat % 0x2000) (s.dmaRead s.dma.src) }
        dma := { s.dma with
          src := s.dma.src + 1
          dst := BitVec.ofNat 16 (0x8000 + (s.dma.dst + 1 - 0x8000).toNat % 0x2000)
          remaining := s.dma.remaining - 1 } } := by
  have wrap : (0x8000 : Word) + ((s.dma.dst + 1 - 0x8000).extractLsb' 0 13).zeroExtend 16 =
      BitVec.ofNat 16 (0x8000 + (s.dma.dst + 1 - 0x8000).toNat % 0x2000) := by
    apply BitVec.eq_of_toNat_eq
    simp [BitVec.extractLsb'_toNat]
  unfold vdmaCopyByte
  rw [wrap]
  rfl

/-- The last byte of a longer copy comes after the shorter copy. -/
theorem vdmaCopyBytes_succ (n : Nat) (s : State) : vdmaCopyBytes (n + 1) s = (vdmaCopyBytes n s).vdmaCopyByte := by
  induction n generalizing s with
  | zero => rfl
  | succ n ih => exact ih s.vdmaCopyByte

/-- A copy of `n` bytes counts the bytes left down by `n`. -/
theorem vdmaCopyBytes_remaining (n : Nat) (s : State) : (vdmaCopyBytes n s).dma.remaining = s.dma.remaining - n := by
  induction n with
  | zero => rfl
  | succ n ih =>
    have one : (vdmaCopyBytes n s).vdmaCopyByte.dma.remaining = (vdmaCopyBytes n s).dma.remaining - 1 := rfl
    rw [vdmaCopyBytes_succ, one, ih]
    omega

/-- A copy of `n` bytes moves the source on by `n`. -/
theorem vdmaCopyBytes_src (n : Nat) (s : State) : (vdmaCopyBytes n s).dma.src = s.dma.src + BitVec.ofNat 16 n := by
  induction n with
  | zero => exact (BitVec.add_zero _).symm
  | succ n ih =>
    have one : (vdmaCopyBytes n s).vdmaCopyByte.dma.src = (vdmaCopyBytes n s).dma.src + 1 := rfl
    rw [vdmaCopyBytes_succ, one, ih, BitVec.add_assoc, BitVec.ofNat_add]
    rfl

/-- An HBlank's share of a transfer in flight: one block, and the end of the transfer if nothing is left (R466). -/
theorem hblankDmaStep_active {s : State} (cgb : s.cfg.model = .cgb) (active : s.dma.active = true) :
    s.hblankDmaStep =
      if (vdmaCopyBytes 16 s).dma.remaining = 0 then
        (vdmaCopyBytes 16 s).setDma { (vdmaCopyBytes 16 s).dma with active := false, complete := true }
      else vdmaCopyBytes 16 s := by
  simp only [hblankDmaStep, cgb, active, decide_true, Bool.and_true, if_true]
  rfl

/-- Without a transfer in flight, or on a DMG, an HBlank copies nothing (R466). -/
theorem hblankDmaStep_idle {s : State} (idle : s.cfg.model = .dmg ∨ s.dma.active = false) : s.hblankDmaStep = s := by
  unfold hblankDmaStep
  rcases idle with dmg | idle
  · simp [dmg]
  · simp [idle]

end State

/-- The bytes that a write of HDMA5 asks for (R461). -/
theorem hdma5_length (v : Byte) : (v.extractLsb' 0 7).toNat = (v &&& 0x7F).toNat := by
  rw [BitVec.extractLsb'_toNat, BitVec.toNat_and]
  exact (Nat.and_two_pow_sub_one_eq_mod _ 7).symm

/-- What HDMA5 reads by numbers (R467). -/
theorem Dma.readHdma5_eq (d : Dma) :
    d.readHdma5 =
      if d.complete then 0xFF
      else (if d.active then 0 else 0x80) ||| (BitVec.ofInt 8 ((d.remaining / 16 : Nat) - 1) &&& 0x7F) := by
  have packed : ∀ (b : Bool) (w : Byte),
      BitVec.ofBool (!b) ++ (w.setWidth 7 - 1) = (if b then 0 else 0x80) ||| ((w - 1) &&& 0x7F) := by decide
  have narrow : BitVec.ofNat 7 (d.remaining / 16) = (BitVec.ofNat 8 (d.remaining / 16)).setWidth 7 :=
    BitVec.eq_of_toNat_eq (by simp)
  have minus : BitVec.ofInt 8 ((d.remaining / 16 : Nat) - 1) = BitVec.ofNat 8 (d.remaining / 16) - 1 := by
    rw [ofInt_sub_byte]; rfl
  rw [Dma.readHdma5, narrow, packed, minus]

namespace State

/-- A write of HDMA5 by the transfer in flight and bit 7 of the byte (R461). -/
theorem writeHdma5_eq (s : State) (v : Byte) :
    s.writeHdma5 v =
      if s.dma.active = true ∧ v.getLsbD 7 = false then s.setDma { s.dma with hdma5 := v, active := false }
      else if v.getLsbD 7 = true then
        s.setDma { s.dma with
          hdma5 := v, src := s.dma.srcLatch, dst := s.dma.dstLatch, remaining := ((v &&& 0x7F).toNat + 1) * 16
          complete := false, mode := .hblank, active := true }
      else
        (s.setDma { s.dma with
          hdma5 := v, src := s.dma.srcLatch, dst := s.dma.dstLatch, remaining := ((v &&& 0x7F).toNat + 1) * 16
          complete := false, mode := .general, active := false }).gdma := by
  rw [← hdma5_length]
  unfold writeHdma5
  have cancels : (s.dma.active && !v.getLsbD 7) = true ↔ s.dma.active = true ∧ v.getLsbD 7 = false := by simp
  simp only [setDma_dma, cancels]
  rfl

end State

/-- Settles O45: the registers by their rows of the I/O table, HDMA5 by `writeHdma5_eq`, the copies byte by byte. -/
theorem vramDmaTransfers : Obligations.VramDmaTransfers := by
  refine ⟨fun s v h cgb => ?_, fun s n => ⟨s.vdmaCopyByte_eq, rfl, State.vdmaCopyBytes_succ n s,
    State.hblankDmaStep_idle, ?_⟩⟩
  · have io := State.io_cgb (v := v) h cgb
    have write : s.busWrite 0xFF55 v = s.writeHdma5 v := (io 0x55 .hdma5 (by decide)).2
    have read : s.busRead 0xFF55 = s.dma.readHdma5 := (io 0x55 .hdma5 (by decide)).1
    refine ⟨⟨(io 0x51 .hdma1 (by decide)).2, (io 0x51 .hdma1 (by decide)).1, (io 0x52 .hdma2 (by decide)).2,
      (io 0x52 .hdma2 (by decide)).1, (io 0x53 .hdma3 (by decide)).2, (io 0x53 .hdma3 (by decide)).1,
      (io 0x54 .hdma4 (by decide)).2, (io 0x54 .hdma4 (by decide)).1⟩, fun active low => ?_, fun high => ?_, ?_,
      read.trans s.dma.readHdma5_eq⟩
    · rw [write, s.writeHdma5_eq, if_pos ⟨active, low⟩]
      rfl
    · rw [write, s.writeHdma5_eq, if_neg (by simp [high]), if_pos high]
      rfl
    · rintro n t u idle low length rfl rfl
      refine ⟨?_, ?_, State.vdmaCopyBytes_src _ _⟩
      · rw [write, s.writeHdma5_eq, if_neg (by simp [idle]), if_neg (low ▸ Bool.false_ne_true), ← length]
        rfl
      · rw [State.vdmaCopyBytes_remaining, Nat.sub_self]
  · rintro u cgb active rfl
    have left := State.vdmaCopyBytes_remaining 16 s
    have step := State.hblankDmaStep_active cgb active
    refine ⟨left, State.vdmaCopyBytes_keeps (fun s => s.sched) (fun _ => rfl) 16 s,
      State.vdmaCopyBytes_keeps (fun s => s.dma.active) (fun _ => rfl) 16 s, fun last => ?_, fun more => ?_⟩
    · rw [step, if_pos (by omega)]
      rfl
    · rw [step, if_neg (by omega)]

end Sys2Proof.Machine

/-! PROOFS. The APU (47_apu.md): its registers, triggers, channel timers, frame sequencer, sweep and power, and the statements
about them. -/

namespace Sys2Proof.Machine

/-! ## Fields of the registers by numbers -/

/-- The DAC of a channel with an NRk2 is on from 8 (R399). -/
theorem dacOn_eq (v : Byte) : dacOn v = decide (8 ≤ v.toNat) := by
  revert v; decide

/-- The envelope timer that a trigger loads (R400). -/
theorem envReload_eq (v : Byte) : envReload v = if v.toNat % 8 = 0 then 8 else v.toNat % 8 := by
  simp [envReload, BitVec.extractLsb'_toNat]

/-- The length that NRk1 loads (R401). -/
theorem lengthLoad_eq (v : Byte) : 64 - (v.extractLsb' 0 6).toNat = 64 - v.toNat % 64 := by
  simp [BitVec.extractLsb'_toNat]

/-- The sweep interval is NR10[6:4] (R383). -/
theorem Apu.sweepInterval_eq (a : Apu) : a.sweepInterval = a.sweep.nr10.toNat / 16 % 8 := by
  simp [sweepInterval, BitVec.extractLsb'_toNat, Nat.shiftRight_eq_div_pow]

/-- The period of the noise channel (R396). -/
theorem Noise.period_eq (c : Noise) :
    c.period = (if c.nr3.toNat % 8 = 0 then 8 else 16 * (c.nr3.toNat % 8)) * 2 ^ (c.nr3.toNat / 16) := by
  have code : (c.nr3.extractLsb' 0 3).toNat = c.nr3.toNat % 8 := by simp [BitVec.extractLsb'_toNat]
  have shift : (c.nr3.extractLsb' 4 4).toNat = c.nr3.toNat / 16 := by
    have := c.nr3.isLt
    simp [BitVec.extractLsb'_toNat, Nat.shiftRight_eq_div_pow]
    omega
  have divisor : ∀ n, noiseDivisor n = if n = 0 then 8 else 16 * n := by
    intro n; cases n <;> rfl
  rw [Noise.period, code, shift, divisor, Nat.shiftLeft_eq]

/-! ## Channel timers -/

/-- What the loop of `ApuCatchUp` needs of a channel: its timer is a field of its own, and an expiry reloads it with a positive
period and does not depend on it. -/
structure TimerLaws {α : Type} (timer : α → Nat) (setTimer : α → Nat → α) (expire : α → α) : Prop where
  timer_set : ∀ c t, timer (setTimer c t) = t
  set_set : ∀ c t u, setTimer (setTimer c t) u = setTimer c u
  set_timer : ∀ c, setTimer c (timer c) = c
  expire_set : ∀ c t, expire (setTimer c t) = expire c
  positive : ∀ c, 0 < timer (expire c)

section Run

variable {α : Type} {timer : α → Nat} {setTimer : α → Nat → α} {expire : α → α} (laws : TimerLaws timer setTimer expire)
include laws

/-- Before the timer reaches 0 the single cycles only count it down. -/
theorem tickChannel_iterate_lt {k : Nat} {c : α} (h : k < timer c) :
    (tickChannel timer setTimer expire)^[k] c = setTimer c (timer c - k) := by
  induction k with
  | zero => exact (laws.set_timer c).symm
  | succ k ih =>
    rw [Function.iterate_succ_apply', ih (by omega), tickChannel, laws.timer_set, if_neg (by omega), laws.set_set]
    rfl

/-- As many cycles as the timer shows make the channel expire once. -/
theorem tickChannel_iterate_timer {c : α} (h : 0 < timer c) :
    (tickChannel timer setTimer expire)^[timer c] c = expire c := by
  obtain ⟨k, hk⟩ := Nat.exists_eq_succ_of_ne_zero h.ne'
  rw [hk, Function.iterate_succ_apply', tickChannel_iterate_lt laws (by omega), tickChannel, laws.timer_set,
    if_pos (by omega), laws.expire_set]

/-- The loop of `ApuCatchUp` is single cycles (R371, R376). -/
theorem runChannel_eq_iterate {fuel n : Nat} {c : α} (bound : n < fuel) (h : 0 < timer c) :
    runChannel timer setTimer expire fuel n c = (tickChannel timer setTimer expire)^[n] c := by
  induction fuel generalizing n c with
  | zero => omega
  | succ fuel ih =>
    rw [runChannel]
    split
    case isTrue due =>
      have split_n : n = n - timer c + timer c := by omega
      rw [ih (by omega) (laws.positive c)]
      conv_rhs => rw [split_n, Function.iterate_add_apply, tickChannel_iterate_timer laws h]
    case isFalse early => exact (tickChannel_iterate_lt laws (by omega)).symm

end Run

theorem Square.period_pos (c : Square) : 0 < c.period := by
  have := c.freq.isLt
  simp only [Square.period]
  omega

theorem Wave.period_pos (c : Wave) : 0 < c.period := by
  have := c.freq.isLt
  simp only [Wave.period]
  omega

theorem Noise.period_pos (c : Noise) : 0 < c.period := by
  rw [Noise.period_eq]
  refine Nat.mul_pos ?_ (by positivity)
  split <;> omega

theorem Square.timerLaws : TimerLaws (fun c : Square => c.timer) (fun c t => { c with timer := t }) Square.expire :=
  ⟨fun _ _ => rfl, fun _ _ _ => rfl, fun _ => rfl, fun _ _ => rfl, Square.period_pos⟩

theorem Wave.timerLaws (wave : Memory) :
    TimerLaws (fun c : Wave => c.timer) (fun c t => { c with timer := t }) (Wave.expire wave) :=
  ⟨fun _ _ => rfl, fun _ _ _ => rfl, fun _ => rfl, fun _ _ => rfl, Wave.period_pos⟩

theorem Noise.timerLaws : TimerLaws (fun c : Noise => c.timer) (fun c t => { c with timer := t }) Noise.expire :=
  ⟨fun _ _ => rfl, fun _ _ _ => rfl, fun _ => rfl, fun _ _ => rfl, Noise.period_pos⟩

theorem Square.run_eq_iterate (n : Nat) {c : Square} (h : 0 < c.timer) : c.run n = Square.tick^[n] c :=
  runChannel_eq_iterate Square.timerLaws (Nat.lt_succ_self n) h

theorem Wave.run_eq_iterate (wave : Memory) (n : Nat) {c : Wave} (h : 0 < c.timer) : c.run wave n = (Wave.tick wave)^[n] c :=
  runChannel_eq_iterate (Wave.timerLaws wave) (Nat.lt_succ_self n) h

theorem Noise.run_eq_iterate (n : Nat) {c : Noise} (h : 0 < c.timer) : c.run n = Noise.tick^[n] c :=
  runChannel_eq_iterate Noise.timerLaws (Nat.lt_succ_self n) h

namespace Apu

/-- `n` cycles of the whole APU, channel by channel (R371). -/
theorem tick_iterate (wave : Memory) (n : Nat) (a : Apu) :
    (tick wave)^[n] a =
      if a.power then
        { a with
          synced := a.synced + n, ch1 := Square.tick^[n] a.ch1, ch2 := Square.tick^[n] a.ch2
          ch3 := (Wave.tick wave)^[n] a.ch3, ch4 := Noise.tick^[n] a.ch4 }
      else { a with synced := a.synced + n } := by
  induction n with
  | zero => simp
  | succ n ih =>
    rw [Function.iterate_succ_apply', ih]
    cases on : a.power <;> simp [tick, Function.iterate_succ_apply', add_assoc]

end Apu

/-- Settles O47: the loop of `ApuCatchUp` is single cycles on each channel. -/
theorem catchUpIsStepping : Obligations.CatchUpIsStepping := by
  intro a wave n h1 h2 h3 h4
  have elapsed : (a.synced + (n : Int) - a.synced).toNat = n := by omega
  rw [Apu.tick_iterate, Apu.catchUp, elapsed]
  simp only [Square.run_eq_iterate n h1, Square.run_eq_iterate n h2, Wave.run_eq_iterate wave n h3, Noise.run_eq_iterate n h4]

/-! ## The frame sequencer -/

namespace Apu

@[simp] theorem catchUp_power (a : Apu) (wave : Memory) (t : Int) : (a.catchUp wave t).power = a.power := by
  cases on : a.power <;> simp [catchUp, on]

@[simp] theorem sweepCheck_sweep (a : Apu) : a.sweepCheck.sweep = a.sweep := by
  unfold sweepCheck; split <;> rfl

@[simp] theorem sweepCheck_fsStep (a : Apu) : a.sweepCheck.fsStep = a.fsStep := by
  unfold sweepCheck; split <;> rfl

@[simp] theorem sweepCheck_freq (a : Apu) : a.sweepCheck.ch1.freq = a.ch1.freq := by
  unfold sweepCheck; split <;> rfl

/-- `SweepCalc` in full: channel 1 stays enabled only without an overflow (R384). -/
theorem sweepCheck_enabled (a : Apu) :
    a.sweepCheck = { a with ch1 := { a.ch1 with enabled := a.ch1.enabled && decide (a.sweepNew ≤ 2047) } } := by
  unfold sweepCheck
  split
  case isTrue fits => rw [decide_eq_true fits, Bool.and_true]
  case isFalse large => rw [decide_eq_false large, Bool.and_false]

/-- The interval timer of the sweep reloaded (R383). -/
def sweepReload (a : Apu) : Apu :=
  { a with sweep := { a.sweep with timer := if a.sweepInterval ≠ 0 then a.sweepInterval else 8 } }

/-- The shadow and the frequency of channel 1 replaced by the new frequency (R383). -/
def sweepReplace (a : Apu) : Apu :=
  { a with
    sweep := { a.sweep with shadow := BitVec.ofNat 11 a.sweepNew }, ch1 := { a.ch1 with freq := BitVec.ofNat 11 a.sweepNew } }

/-- A sweep clock that ends the interval (R383). -/
theorem clockSweep_interval {a : Apu} (ends : a.sweep.timer ≤ 1) :
    a.clockSweep =
      if a.sweep.enabled = true ∧ a.sweepInterval ≠ 0 then
        if a.sweepNew ≤ 2047 ∧ a.sweepShift ≠ 0 then a.sweepReload.sweepReplace.sweepCheck else a.sweepReload.sweepCheck
      else a.sweepReload := by
  have zero : a.sweep.timer - 1 = 0 := by omega
  have runs : (a.sweepReload.sweep.enabled && decide (a.sweepReload.sweepInterval ≠ 0)) = true ↔
      a.sweep.enabled = true ∧ a.sweepInterval ≠ 0 := by
    rw [Bool.and_eq_true, decide_eq_true_iff]; rfl
  have shift : a.sweepReload.sweepCheck.sweepShift = a.sweepShift := by simp [sweepShift, sweepReload]
  have new : a.sweepReload.sweepNew = a.sweepNew := rfl
  have steps : a.clockSweep =
      if (a.sweepReload.sweep.enabled && decide (a.sweepReload.sweepInterval ≠ 0)) = true then
        if a.sweepReload.sweepNew ≤ 2047 ∧ a.sweepReload.sweepCheck.sweepShift ≠ 0 then
          sweepCheck { a.sweepReload.sweepCheck with
            sweep := { a.sweepReload.sweepCheck.sweep with shadow := BitVec.ofNat 11 a.sweepReload.sweepNew }
            ch1 := { a.sweepReload.sweepCheck.ch1 with freq := BitVec.ofNat 11 a.sweepReload.sweepNew } }
        else a.sweepReload.sweepCheck
      else a.sweepReload := if_pos zero
  simp only [steps, runs, shift, new]
  by_cases replace : a.sweepNew ≤ 2047 ∧ a.sweepShift ≠ 0
  · have kept : a.sweepReload.sweepCheck = a.sweepReload := if_pos replace.1
    rw [if_pos replace, if_pos replace, kept]
    rfl
  · rw [if_neg replace, if_neg replace]

@[simp] theorem clockSweep_fsStep (a : Apu) : a.clockSweep.fsStep = a.fsStep := by
  by_cases ends : a.sweep.timer ≤ 1
  · rw [clockSweep_interval ends]
    split
    · split <;> simp [sweepReload, sweepReplace]
    · rfl
  · have counts : a.sweep.timer - 1 ≠ 0 := by omega
    simp [clockSweep, counts]

end Apu

namespace Apu

@[simp] theorem clockLength_fsStep (a : Apu) : a.clockLength.fsStep = a.fsStep := rfl

/-- With the power off the frame sequencer does nothing (R380). -/
theorem frameStep_off {a : Apu} (off : a.power = false) : a.frameStep = a := by
  simp [frameStep, off]

/-- The eight steps of the frame sequencer (R380). -/
theorem frameStep_on {a : Apu} (on : a.power = true) :
    (a.fsStep = 0 ∨ a.fsStep = 4 → a.frameStep = { a.clockLength with fsStep := a.fsStep + 1 }) ∧
    (a.fsStep = 2 ∨ a.fsStep = 6 → a.frameStep = { a.clockLength.clockSweep with fsStep := a.fsStep + 1 }) ∧
    (a.fsStep = 1 ∨ a.fsStep = 3 ∨ a.fsStep = 5 → a.frameStep = { a with fsStep := a.fsStep + 1 }) ∧
    (a.fsStep = 7 → a.frameStep = { a.clockEnvelope with fsStep := 0 }) := by
  refine ⟨?_, ?_, ?_, ?_⟩
  · rintro (step | step) <;> simp [frameStep, on, step]
  · rintro (step | step) <;> simp [frameStep, on, step]
  · rintro (step | step | step) <;> simp [frameStep, on, step]
  · intro step
    have wrap : a.clockEnvelope.fsStep + 1 = 0 := by change a.fsStep + 1 = 0; rw [step]; rfl
    simp [frameStep, on, step, ← wrap]

end Apu

/-- `EV_APU_FS` in a state between cycles: the step, and the event queued again 8192 cycles after it was due (R380). -/
theorem State.fsEvent_idle {s : State} {late : Int} (staged : s.sched.staged = 0) (idle : s.isPending .apuFs = false) :
    s.fsEvent late =
      (s.setApu (s.apuAt late).frameStep).setQueue
        (enqueue .apuFs ((s.sched.cycle : Int) - late + 8192) s.sched.queue) := by
  have again : ((s.setApu (s.apuAt late).frameStep).now : Int) + (fsPeriod - late) = (s.sched.cycle : Int) - late + 8192 := by
    simp only [State.now, State.setApu_sched, staged, fsPeriod]; omega
  rw [State.fsEvent, State.schedule_idle (s := s.setApu (s.apuAt late).frameStep) idle, again]
  rfl

/-- Settles O48: `fsEvent_idle` and the steps of the frame sequencer. -/
theorem frameSequencer : Obligations.FrameSequencer := by
  rintro s t late a staged idle rfl rfl
  rw [State.fsEvent_idle staged idle]
  have power : (s.apuAt late).power = s.apu.power := Apu.catchUp_power _ _ _
  exact ⟨rfl, fun off => Apu.frameStep_off (power.trans off), fun on => Apu.frameStep_on (power.trans on)⟩

/-! ## The sweep -/

namespace Apu

@[simp] theorem sweepReload_timer (a : Apu) :
    a.sweepReload.sweep.timer = if a.sweepInterval = 0 then 8 else a.sweepInterval := ite_not ..

@[simp] theorem sweepReplace_timer (a : Apu) : a.sweepReplace.sweep.timer = a.sweep.timer := rfl

/-- The interval timer after a sweep clock that ends the interval (R383). -/
theorem clockSweep_timer {a : Apu} (ends : a.sweep.timer ≤ 1) :
    a.clockSweep.sweep.timer = if a.sweepInterval = 0 then 8 else a.sweepInterval := by
  rw [clockSweep_interval ends]
  split
  · split <;> simp
  · simp

/-- The second `SweepCalc`, of the replaced shadow (R383, R384). -/
theorem sweepReplace_sweepNew {a : Apu} (fits : a.sweepNew ≤ 2047) :
    a.sweepReload.sweepReplace.sweepNew =
      if a.sweep.nr10.getLsbD 3 then a.sweepNew - a.sweepNew / 2 ^ a.sweepShift
      else a.sweepNew + a.sweepNew / 2 ^ a.sweepShift := by
  have shadow : a.sweepReload.sweepReplace.sweep.shadow.toNat = a.sweepNew := Nat.mod_eq_of_lt (Nat.lt_succ_of_le fits)
  rw [sweepNew_eq, shadow]
  rfl

end Apu

/-- Settles O50: `clockSweep_interval`, and the second check through `sweepReplace_sweepNew`. -/
theorem sweepTick : Obligations.SweepTick := by
  rintro a b interval shift new rfl rfl hnew rfl ends
  rw [← a.sweepShift_eq, ← a.sweepNew_eq] at hnew
  subst hnew
  rw [← a.sweepInterval_eq, ← a.sweepShift_eq]
  refine ⟨Apu.clockSweep_timer ends, fun on interval large => ?_, fun on interval fits shift => ?_⟩
  · have reloaded : ¬ a.sweepReload.sweepNew ≤ 2047 := not_le.2 large
    rw [Apu.clockSweep_interval ends, if_pos ⟨on, interval⟩, if_neg fun h => not_le.2 large h.1, Apu.sweepCheck_enabled]
    exact ⟨by simp [reloaded], rfl, rfl⟩
  · have low : a.sweepNew % 2 ^ 11 = a.sweepNew := Nat.mod_eq_of_lt (Nat.lt_succ_of_le fits)
    have second := Apu.sweepReplace_sweepNew fits
    rw [Apu.clockSweep_interval ends, if_pos ⟨on, interval⟩, if_pos ⟨fits, shift⟩, Apu.sweepCheck_enabled]
    refine ⟨low, low, fun add large => ?_, fun stays => ?_⟩
    · have second_large : ¬ a.sweepReload.sweepReplace.sweepNew ≤ 2047 := by
        rw [second, add]; exact not_le.2 large
      simp [second_large]
    · have second_fits : a.sweepReload.sweepReplace.sweepNew ≤ 2047 := by
        rw [second]
        split
        · exact (Nat.sub_le ..).trans fits
        · exact stays.resolve_left ‹_›
      simp only [second_fits, decide_true, Bool.and_true]
      rfl

/-! ## Registers and triggers -/

theorem Square.trigger_eq (c : Square) :
    c.trigger =
      { c with
        enabled := decide (8 ≤ c.nr2.toNat), length := if c.length = 0 then 64 else c.length
        timer := (2048 - c.freq.toNat) * 4, envTimer := if c.nr2.toNat % 8 = 0 then 8 else c.nr2.toNat % 8
        volume := c.nr2.extractLsb' 4 4 } := by
  rw [Square.trigger, dacOn_eq, envReload_eq]; rfl

theorem Noise.trigger_eq (c : Noise) :
    c.trigger =
      { c with
        enabled := decide (8 ≤ c.nr2.toNat), length := if c.length = 0 then 64 else c.length
        timer := (if c.nr3.toNat % 8 = 0 then 8 else 16 * (c.nr3.toNat % 8)) * 2 ^ (c.nr3.toNat / 16)
        envTimer := if c.nr2.toNat % 8 = 0 then 8 else c.nr2.toNat % 8
        volume := c.nr2.extractLsb' 4 4, lfsr := 0x7FFF } := by
  rw [Noise.trigger, dacOn_eq, envReload_eq, Noise.period_eq]

namespace Apu

/-- Channel 1 triggered and the sweep loaded, before the overflow check (R400). -/
def sweepLoad (a : Apu) : Apu :=
  { a with
    ch1 := a.ch1.trigger
    sweep := { a.sweep with
      shadow := a.ch1.freq
      timer := if a.sweepInterval = 0 then 8 else a.sweepInterval
      enabled := decide (a.sweepInterval ≠ 0 ∨ a.sweepShift ≠ 0) } }

/-- `Trigger(1)` is the load and then, with a shift, the overflow check (R400). -/
theorem trigger1_eq (a : Apu) : a.trigger1 = if a.sweepShift = 0 then a.sweepLoad else a.sweepLoad.sweepCheck := by
  rw [← ite_not]
  simp only [sweepLoad, ← ite_not (p := a.sweepInterval = 0)]
  rfl

/-- `Trigger(1)`: the channel stays enabled only without an overflow of the sweep (R400). -/
theorem trigger1_enabled (a : Apu) {new : Nat}
    (hnew : new = if a.sweep.nr10.getLsbD 3 then a.ch1.freq.toNat - a.ch1.freq.toNat / 2 ^ a.sweepShift
      else a.ch1.freq.toNat + a.ch1.freq.toNat / 2 ^ a.sweepShift) :
    a.trigger1 = { a.sweepLoad with
      ch1 := { a.ch1.trigger with enabled := decide (8 ≤ a.ch1.nr2.toNat ∧ (a.sweepShift = 0 ∨ new ≤ 2047)) } } := by
  have loaded : a.sweepLoad.sweepNew = new := by rw [hnew, sweepNew_eq]; rfl
  have dac : a.ch1.trigger.enabled = decide (8 ≤ a.ch1.nr2.toNat) := dacOn_eq _
  rw [trigger1_eq]
  split
  case isTrue plain => simp only [plain, true_or, and_true, ← dac]; rfl
  case isFalse shifts =>
    simp only [sweepCheck_enabled, loaded, shifts, false_or, Bool.decide_and, ← dac]
    rfl

end Apu

/-- What a register reads after the byte was written to it with the power on, field by field (R57). -/
theorem readback_fields (v : Byte) :
    (0x80 ||| (v.extractLsb' 0 7).zeroExtend 8 = v ||| 0x80) ∧
    (v.extractLsb' 6 2 ++ (0x3F : BitVec 6) = v ||| 0x3F) ∧
    ((1 : BitVec 1) ++ BitVec.ofBool (v.getLsbD 6) ++ (0x3F : BitVec 6) = v ||| 0xBF) ∧
    (BitVec.ofBool (v.getLsbD 7) ++ (0x7F : BitVec 7) = v ||| 0x7F) ∧
    ((1 : BitVec 1) ++ v.extractLsb' 5 2 ++ (0x1F : BitVec 5) = v ||| 0x9F) ∧ (v = v ||| 0) ∧ (0xFF = v ||| 0xFF) := by
  revert v; decide

namespace Apu

@[simp] theorem trigger1_lenEn (a : Apu) : a.trigger1.ch1.lenEn = a.ch1.lenEn := by
  rw [trigger1_enabled a rfl]; rfl

theorem writeOn_nr14_lenEn (a : Apu) (v : Byte) : (a.writeOn .nr14 v).ch1.lenEn = v.getLsbD 6 := by
  simp only [writeOn]
  split
  · exact trigger1_lenEn _
  · rfl

/-- With the power on a register reads the byte written under its mask (R57, R421). -/
theorem readReg_writeOn (a : Apu) (r : ApuReg) (v : Byte) : (a.writeOn r v).readReg r = v ||| r.mask := by
  obtain ⟨sweep, duty, lenEn, dac, level, whole, hidden⟩ := readback_fields v
  cases r with
  | nr10 => exact sweep
  | nr11 | nr21 => exact duty
  | nr12 | nr22 | nr42 | nr43 | nr50 | nr51 => exact whole
  | nr13 | nr23 | nr31 | nr33 | nr41 => exact hidden
  | nr14 => exact (congrArg (fun b => (1 : BitVec 1) ++ BitVec.ofBool b ++ (0x3F : BitVec 6)) (a.writeOn_nr14_lenEn v)).trans lenEn
  | nr24 | nr34 | nr44 =>
    simp only [readReg, writeOn]
    split <;> exact lenEn
  | nr30 => exact dac
  | nr32 => exact level

end Apu

/-- The I/O register that an APU register is (R92). -/
def ApuReg.io : ApuReg → IoReg
  | .nr10 => .nr10 | .nr11 => .nr11 | .nr12 => .nr12 | .nr13 => .nr13 | .nr14 => .nr14
  | .nr21 => .nr21 | .nr22 => .nr22 | .nr23 => .nr23 | .nr24 => .nr24
  | .nr30 => .nr30 | .nr31 => .nr31 | .nr32 => .nr32 | .nr33 => .nr33 | .nr34 => .nr34
  | .nr41 => .nr41 | .nr42 => .nr42 | .nr43 => .nr43 | .nr44 => .nr44
  | .nr50 => .nr50 | .nr51 => .nr51

/-- The row of an APU register in the I/O table (R57, R92). -/
theorem ApuReg.io_row (r : ApuReg) :
    r.address = BitVec.ofNat 16 (0xFF00 + (r.address.toNat - 0xFF00)) ∧
      (r.address.toNat - 0xFF00 < 128 ∧ IoReg.ofOffset (r.address.toNat - 0xFF00) = some r.io ∧ r.io.cgbOnly = false) := by
  cases r <;> decide

/-- An APU register read at its address, and written there after the catch-up (R376, R425). -/
theorem ApuReg.bus_eq {s : State} (h : s.cfg.Admissible) (r : ApuReg) (v : Byte) :
    s.busRead r.address = s.apu.readReg r ∧ s.busWrite r.address v = s.apuWrite r v := by
  obtain ⟨place, row⟩ := r.io_row
  have read : s.ioRead r.io = s.apu.readReg r := by cases r <;> rfl
  have write : s.ioWrite r.io v = s.apuWrite r v := by cases r <;> rfl
  rw [place, ← read, ← write]
  exact State.io_shared h _ _ v row

/-- Settles O46: the rows of the I/O table, `readReg_writeOn`, and the triggers channel by channel. -/
theorem channelRegisters : Obligations.ChannelRegisters := by
  refine ⟨fun s v h => ⟨fun r => ApuReg.bus_eq h r v, fun i small => ?_⟩, fun a v on => ?_, ?_⟩
  · have row : ∀ i, i < 16 → IoReg.ofOffset (0x30 + i) = some (.wave i) := by decide
    rw [show 0xFF30 + i = 0xFF00 + (0x30 + i) by omega]
    exact State.io_shared h (0x30 + i) (.wave i) v ⟨by omega, row i small, rfl⟩
  · have write : ∀ r, a.write r v = a.writeOn r v := fun r => if_pos on
    simp only [write]
    refine ⟨fun r => a.readReg_writeOn r v, rfl, ?_, ?_, ?_, ?_, ?_, rfl, rfl, rfl, rfl, rfl, rfl, ?_, rfl, rfl, rfl⟩
    · rw [← lengthLoad_eq]; rfl
    · rw [← lengthLoad_eq]; rfl
    · rw [← dacOn_eq]; rfl
    · rw [← dacOn_eq]; rfl
    · rw [← dacOn_eq]; rfl
    · rw [← lengthLoad_eq]; rfl
  · rintro a v c d w n interval shift new on rfl rfl rfl rfl rfl rfl hnew
    have write : ∀ r, a.write r v = a.writeOn r v := fun r => if_pos on
    simp only [write]
    refine ⟨fun plain => ?_, fun trigger => ?_⟩
    · simp only [Apu.writeOn, plain, if_false, Bool.false_eq_true, Square.writeNr4, Wave.writeNr4, and_self]
    · simp only [Apu.writeOn, trigger, if_true]
      refine ⟨?_, ?_, rfl, ?_⟩
      · rw [← a.sweepInterval_eq, ← a.sweepShift_eq, Apu.trigger1_enabled _ hnew, Square.trigger_eq]
        rfl
      · rw [Square.trigger_eq]; rfl
      · rw [Noise.trigger_eq]

/-! ## Power and the mixer -/

namespace Apu

/-- NR52 by numbers (R422). -/
theorem readNr52_eq (a : Apu) :
    a.readNr52 = 0x70 ||| (if a.power then 0x80 else 0) ||| (if a.ch4.enabled then 8 else 0) |||
      (if a.ch3.enabled then 4 else 0) ||| (if a.ch2.enabled then 2 else 0) ||| (if a.ch1.enabled then 1 else 0) := by
  have packed : ∀ p d c b e : Bool,
      BitVec.ofBool p ++ (0x7 : BitVec 3) ++ BitVec.ofBool d ++ BitVec.ofBool c ++ BitVec.ofBool b ++ BitVec.ofBool e =
        0x70 ||| (if p then 0x80 else 0) ||| (if d then 8 else 0) ||| (if c then 4 else 0) ||| (if b then 2 else 0) |||
          (if e then 1 else (0 : Byte)) := by decide
  exact packed ..

/-- After power-off every register reads its mask alone (R57, R422). -/
theorem readReg_powerOff (a : Apu) (r : ApuReg) : a.powerOff.readReg r = r.mask := by
  have stored : a.powerOff.readReg r = (Apu.reset true).powerOff.readReg r := by cases r <;> rfl
  rw [stored]
  cases r <;> decide

/-- With the power off only the four length loads are not dropped (R423). -/
theorem writeOff_of_not_length {a : Apu} {r : ApuReg} (v : Byte) (h1 : r ≠ .nr11) (h2 : r ≠ .nr21) (h3 : r ≠ .nr31)
    (h4 : r ≠ .nr41) : a.writeOff r v = a := by
  cases r <;> first | rfl | contradiction

end Apu

theorem Square.amp_le (c : Square) : c.amp ≤ 15 := by
  have := c.volume.isLt
  unfold Square.amp
  split <;> omega

theorem Wave.amp_le (c : Wave) : c.amp ≤ 15 := by
  have small : ∀ sh, c.sample.toNat >>> sh ≤ 15 := fun sh =>
    (Nat.shiftRight_le _ sh).trans (Nat.le_of_lt_succ c.sample.isLt)
  cases on : c.enabled with
  | true => simp only [Wave.amp, on, if_true]; exact small _
  | false => simp [Wave.amp, on]

theorem Noise.amp_le (c : Noise) : c.amp ≤ 15 := by
  have := c.volume.isLt
  unfold Noise.amp
  split <;> omega

namespace Apu

/-- The four channels together are at most 60 on a side (R418). -/
theorem mixSide_le (a : Apu) (base : Nat) : a.mixSide base ≤ 60 := by
  have gated : ∀ (b : Bool) (n : Nat), n ≤ 15 → (if b then n else 0) ≤ 15 := by
    intro b n h; split <;> omega
  have h1 := gated (a.nr51.getLsbD base) _ a.ch1.amp_le
  have h2 := gated (a.nr51.getLsbD (base + 1)) _ a.ch2.amp_le
  have h3 := gated (a.nr51.getLsbD (base + 2)) _ a.ch3.amp_le
  have h4 := gated (a.nr51.getLsbD (base + 3)) _ a.ch4.amp_le
  unfold mixSide
  omega

/-- A side after scaling by a three-bit volume is at most 480 (R418). -/
theorem scaled_le (a : Apu) (base : Nat) (volume : BitVec 3) : a.mixSide base * (volume.toNat + 1) ≤ 480 :=
  Nat.mul_le_mul (a.mixSide_le base) volume.isLt

theorem mix_le (a : Apu) : a.mix.1 ≤ 480 ∧ a.mix.2 ≤ 480 := by
  unfold mix
  split
  · exact ⟨a.scaled_le 4 _, a.scaled_le 0 _⟩
  · exact ⟨Nat.zero_le _, Nat.zero_le _⟩

end Apu

/-- Settles O51: NR52 by its row of the I/O table, the writes by the power, and the bound on the mixer. -/
theorem apuPower : Obligations.ApuPower := by
  refine ⟨fun s v h => State.io_shared h 0x26 .nr52 v (by decide), Apu.readNr52_eq, fun a v => ⟨fun off => ?_, fun on low => ?_,
    fun off high => ?_, fun same => ?_, a.mix_le.1, a.mix_le.2, fun off => by simp [Apu.mix, off]⟩⟩
  · have write : ∀ r, a.write r v = a.writeOff r v := fun r => if_neg (off ▸ Bool.false_ne_true)
    simp only [write]
    refine ⟨fun r => Apu.writeOff_of_not_length v, ?_, ?_, rfl, ?_⟩
    · rw [← lengthLoad_eq]; rfl
    · rw [← lengthLoad_eq]; rfl
    · rw [← lengthLoad_eq]; rfl
  · have offs : a.writeNr52 v = a.powerOff := by simp only [Apu.writeNr52, on, low]
    rw [offs]
    exact ⟨rfl, a.readReg_powerOff⟩
  · have ons : a.writeNr52 v = a.powerOn := by simp only [Apu.writeNr52, off, high]
    rw [ons, Apu.powerOn, Noise.period_eq]
    rfl
  · unfold Apu.writeNr52
    rw [same]
    cases v.getLsbD 7 <;> rfl

end Sys2Proof.Machine

/-! PROOFS. The scheduler (40_scheduler.md), the timer (48_timer.md) and `Commit`, and the statements about them. -/

namespace Sys2Proof.Machine

/-! ## Schedule and cancel -/

/-- An insertion splits an ascending queue at its due cycle (R173). -/
theorem enqueue_split (h : Handle) (d : Int) (q : List (Handle × Int)) (ascending : dueAscending q = true) :
    ∃ before after, q = before ++ after ∧ (∀ p ∈ before, p.2 ≤ d) ∧ (∀ p ∈ after, d < p.2) ∧
      enqueue h d q = before ++ (h, d) :: after := by
  induction q with
  | nil => exact ⟨[], [], rfl, by simp, by simp, rfl⟩
  | cons x rest ih =>
    obtain ⟨k, t⟩ := x
    simp only [dueAscending, Bool.and_eq_true, List.all_eq_true, decide_eq_true_eq] at ascending
    obtain ⟨head, tail⟩ := ascending
    by_cases le : t ≤ d
    · obtain ⟨before, after, split, low, high, inserted⟩ := ih tail
      refine ⟨(k, t) :: before, after, by rw [split]; rfl, List.forall_mem_cons.2 ⟨le, low⟩, high, ?_⟩
      simp [enqueue, le, inserted]
    · have later : ∀ p ∈ (k, t) :: rest, d < p.2 :=
        List.forall_mem_cons.2 ⟨not_le.1 le, fun p hp => (not_le.1 le).trans_le (head p hp)⟩
      exact ⟨[], (k, t) :: rest, rfl, by simp, later, by simp [enqueue, le]⟩

/-- Settles O34: `enqueue_split` for an idle handle; the fault and the removal by definition. -/
theorem scheduleAndCancel : Obligations.ScheduleAndCancel := by
  intro s h d
  refine ⟨fun idle ascending => ?_, fun pending healthy => ?_, rfl⟩
  · obtain ⟨before, after, split, low, high, inserted⟩ := enqueue_split h ((s.now : Int) + d) s.sched.queue ascending
    refine ⟨before, after, split, low, high, ?_⟩
    rw [State.schedule_idle idle, inserted]
    rfl
  · rw [State.schedule_pending pending, State.raiseFault_of_none healthy]

/-! ## Commit -/

namespace State

/-- `Schedule` keeps the order of the queue, misused or not (R173, R174). -/
theorem schedule_ascending {s : State} (ascending : dueAscending s.sched.queue = true) (h : Handle) (d : Int) :
    dueAscending (s.schedule h d).sched.queue = true := by
  cases pending : s.isPending h with
  | false =>
    rw [schedule_idle pending]
    exact dueAscending_enqueue _ _ _ ascending
  | true =>
    rw [schedule_pending pending, raiseFault_sched]
    exact ascending

/-- `Cancel` keeps the order of the queue (R175). -/
theorem cancel_ascending {s : State} (ascending : dueAscending s.sched.queue = true) (h : Handle) :
    dueAscending (s.cancel h).sched.queue = true :=
  dueAscending_dequeue _ _ ascending

/-- `EV_TIMER_INC` before it re-arms itself: TIMA counts, and an overflow schedules the reload (R436). -/
def timerCount (s : State) (late : Int) : State :=
  if s.timer.tima + 1 = 0 then
    ((s.setTimer { s.timer with tima := s.timer.tima + 1 }).cancel .timerReload).schedule .timerReload (timaReloadDelay - late)
  else s.setTimer { s.timer with tima := s.timer.tima + 1 }

/-- What the callback of a handle does before it schedules its own handle again (R24). -/
def turn (s : State) (h : Handle) (late : Int) : State :=
  match h with
  | .ppu => s.ppuTurn late
  | .timerInc => s.timerCount late
  | .timerReload => s.timerReloadEvent
  | .apuFs => s.setApu (s.apuAt late).frameStep
  | .apuSample => { s.setApu (s.apuAt late) with sampleOut := s.sampleOut ++ [(s.apuAt late).mix] }
  | .oamDma => s.oamDmaEvent

/-- How long after it was due a handle is due again; `none` if its callback does not schedule it (R24). -/
def wait (s : State) (h : Handle) : Option Int :=
  match h with
  | .ppu => some s.ppuWait
  | .timerInc => some (timaPeriod s.timer.tac)
  | .apuFs => some fsPeriod
  | .apuSample => some s.cfg.samplePeriod
  | .timerReload => none
  | .oamDma => none

theorem timerIncEvent_eq (s : State) (late : Int) :
    s.timerIncEvent late = (s.timerCount late).schedule .timerInc (timaPeriod s.timer.tac - late) := by
  unfold timerIncEvent timerCount
  simp only
  split
  · simp
  · rfl

/-- A callback that recurs is its turn and then one `Schedule` of its own handle. -/
theorem fire_recurring {s : State} {h : Handle} {d : Int} (recurs : s.wait h = some d) (late : Int) :
    s.fire h late = (s.turn h late).schedule h (d - late) := by
  cases h with
  | ppu => cases recurs; exact s.ppuEvent_eq late
  | timerInc => cases recurs; exact s.timerIncEvent_eq late
  | apuFs => cases recurs; rw [fire, fsEvent, turn]
  | apuSample => cases recurs; rfl
  | timerReload => cases recurs
  | oamDma => cases recurs

/-- A callback that does not recur is its turn. -/
theorem fire_once {s : State} {h : Handle} (once : s.wait h = none) (late : Int) : s.fire h late = s.turn h late := by
  cases h with
  | timerReload => rfl
  | oamDma => rfl
  | _ => cases once

/-- A turn but that of the increment leaves the scheduler alone. -/
theorem turn_sched {s : State} {h : Handle} (other : h ≠ .timerInc) (late : Int) : (s.turn h late).sched = s.sched := by
  cases h with
  | ppu => exact s.ppuTurn_sched late
  | timerInc => exact absurd rfl other
  | timerReload => rfl
  | apuFs => rfl
  | apuSample => rfl
  | oamDma => rw [turn, oamDmaEvent, setMems_sched]

/-- A turn keeps the order of the queue. -/
theorem turn_ascending {s : State} (ascending : dueAscending s.sched.queue = true) (h : Handle) (late : Int) :
    dueAscending (s.turn h late).sched.queue = true := by
  by_cases inc : h = .timerInc
  · subst inc
    simp only [turn, timerCount]
    split
    · refine schedule_ascending (cancel_ascending ?_ _) _ _
      exact ascending
    · exact ascending
  · rwa [turn_sched inc]

/-- Every callback keeps the order of the queue. -/
theorem fire_ascending {s : State} (ascending : dueAscending s.sched.queue = true) (h : Handle) (late : Int) :
    dueAscending (s.fire h late).sched.queue = true := by
  cases recurs : s.wait h with
  | some d =>
    rw [fire_recurring recurs]
    exact schedule_ascending (turn_ascending ascending h late) _ _
  | none =>
    rw [fire_once recurs]
    exact turn_ascending ascending h late

/-- The loop of `Commit` keeps the order of the queue. -/
theorem commitLoop_ascending {s : State} (ascending : dueAscending s.sched.queue = true) (fuel : Nat) :
    dueAscending (commitLoop fuel s).sched.queue = true := by
  refine commitLoop_induct (fun t => dueAscending t.sched.queue = true) ?_ ?_ fuel s ascending
  · intro t h due rest ascending _ head _
    rw [head] at ascending
    exact fire_ascending (s := t.setQueue rest) (Bool.and_eq_true_iff.1 ascending).2 _ _
  · intro t ascending _
    rwa [raiseFault_sched]

/-- A raised fault is there. -/
theorem raiseFault_ne_none (s : State) (f : Fault) : (s.raiseFault f).fault ≠ none := by
  cases fault : s.fault with
  | none => rw [raiseFault_of_none fault]; exact nofun
  | some g => rw [raiseFault_of_some fault, fault]; exact nofun

/-- Nothing to fire is nothing overdue. -/
theorem fireHead_none {s : State} (none : s.fireHead = none) : s.overdue = false := by
  unfold fireHead at none
  unfold overdue
  split at none
  case h_1 => rfl
  case h_2 =>
    split at none
    case isTrue => cases none
    case isFalse later => exact decide_eq_false later

/-- The loop of `Commit` ends with nothing overdue, or with a fault (R176). -/
theorem commitLoop_settled (fuel : Nat) (s : State) (healthy : (commitLoop fuel s).fault = none) :
    (commitLoop fuel s).overdue = false := by
  induction fuel generalizing s with
  | zero =>
    unfold commitLoop at healthy ⊢
    cases due : s.overdue with
    | true => rw [due, if_pos rfl] at healthy; exact absurd healthy (raiseFault_ne_none _ _)
    | false => rwa [if_neg Bool.false_ne_true]
  | succ fuel ih =>
    unfold commitLoop at healthy ⊢
    cases fault : s.fault with
    | some f => simp [fault] at healthy
    | none =>
      cases fired : s.fireHead with
      | none => exact fireHead_none fired
      | some t =>
        simp only [fault, fired] at healthy
        exact ih t healthy

/-- In an ascending queue with nothing overdue every entry is ahead (R176). -/
theorem ahead_of_not_overdue {s : State} (ascending : dueAscending s.sched.queue = true) (settled : s.overdue = false) :
    ∀ p ∈ s.sched.queue, (s.sched.cycle : Int) < p.2 := by
  unfold overdue at settled
  split at settled
  case h_1 empty => rw [empty]; nofun
  case h_2 h due rest head =>
    have ahead := not_le.1 (of_decide_eq_false settled)
    rw [head] at ascending ⊢
    simp only [dueAscending, Bool.and_eq_true, List.all_eq_true, decide_eq_true_eq] at ascending
    exact List.forall_mem_cons.2 ⟨ahead, fun p hp => ahead.trans_le (ascending.1 p hp)⟩

end State

/-- Settles O35: the loop keeps the queue ascending and ends with nothing overdue. -/
theorem commitLeavesNothingDue : Obligations.CommitLeavesNothingDue := by
  intro s
  refine ⟨s.commit_cpu, s.commit_cfg, fun _ ascending => ?_⟩
  obtain ⟨cycle, staged⟩ := s.commit_clock
  refine ⟨cycle, staged, fun healthy => ?_⟩
  rw [← cycle]
  exact State.ahead_of_not_overdue (State.commitLoop_ascending (s := s.fold) ascending _) (State.commitLoop_settled _ _ healthy)

/-! ## The timer -/

/-- The period of the increment by the clock select (R70, R432). -/
theorem timaPeriod_eq (tac : BitVec 3) : timaPeriod tac = [1024, 16, 64, 256].getD (tac &&& 3).toNat 0 := by
  revert tac; decide

/-- What a byte written to TAC selects (R70). -/
theorem timaPeriod_byte (v : Byte) : timaPeriod (v.extractLsb' 0 3) = [1024, 16, 64, 256].getD (v &&& 3).toNat 0 := by
  revert v; decide

theorem timaPeriod_pos (tac : BitVec 3) : 0 < timaPeriod tac := by
  revert tac; decide

namespace State

/-- The internal counter by numbers (R430). -/
theorem counter_toNat (s : State) : s.counter.toNat = (((s.now : Int) - s.timer.divZero) % 65536).toNat := rfl

/-- DIV by numbers (R431). -/
theorem readDiv_eq (s : State) :
    s.readDiv = BitVec.ofNat 8 (((s.now : Int) - s.timer.divZero) % 65536 / 256).toNat := by
  apply BitVec.eq_of_toNat_eq
  have := s.counter_toNat
  simp only [readDiv, Word.hi, BitVec.extractLsb'_toNat, this, Nat.shiftRight_eq_div_pow, BitVec.toNat_ofNat]
  omega

/-- TAC by numbers (R70). -/
theorem readTac_eq (s : State) : s.readTac = BitVec.ofNat 8 (0xF8 + s.timer.tac.toNat) := by
  have packed : ∀ tac : BitVec 3, 0xF8 ||| tac.zeroExtend 8 = BitVec.ofNat 8 (0xF8 + tac.toNat) := by decide
  exact packed _

/-- `Cancel` of an idle handle changes nothing (R175). -/
theorem cancel_idle {s : State} {h : Handle} (idle : s.isPending h = false) : s.cancel h = s := by
  rw [cancel, dequeue_of_not_queued _ _ idle]
  rfl

/-- A write of DIV (R439). -/
theorem writeDiv_eq (s : State) :
    s.writeDiv =
      if s.timer.tac.getLsbD 2 then
        { (s.setTimer { s.timer with divZero := (s.now : Int) }).cancel .timerInc with
          sched := { s.sched with
            queue := enqueue .timerInc ((s.now : Int) + timaPeriod s.timer.tac) (dequeue .timerInc s.sched.queue) } }
      else (s.setTimer { s.timer with divZero := (s.now : Int) }).cancel .timerInc := by
  unfold writeDiv
  simp only [schedule_cancel]
  rfl

/-- The cycles to the next point of the period's grid, without truncation (R440). -/
theorem writeTac_due (s : State) (tac : BitVec 3) :
    ((timaPeriod tac - s.counter.toNat % timaPeriod tac : Nat) : Int) =
      timaPeriod tac - ((s.now : Int) - s.timer.divZero) % 65536 % timaPeriod tac := by
  have pos := timaPeriod_pos tac
  rw [Nat.cast_sub (Nat.mod_lt _ pos).le, counter_toNat]
  push_cast
  rw [Int.toNat_of_nonneg (by omega)]

/-- A write of TAC (R440). -/
theorem writeTac_eq (s : State) (v : Byte) :
    s.writeTac v =
      if v.getLsbD 2 then
        { (s.setTimer { s.timer with tac := v.extractLsb' 0 3 }).cancel .timerInc with
          sched := { s.sched with
            queue := enqueue .timerInc
              ((s.now : Int) + (timaPeriod (v.extractLsb' 0 3) -
                ((s.now : Int) - s.timer.divZero) % 65536 % timaPeriod (v.extractLsb' 0 3)))
              (dequeue .timerInc s.sched.queue) } }
      else ((s.setTimer { s.timer with tac := v.extractLsb' 0 3 }).cancel .timerInc).cancel .timerReload := by
  have bit : tacEnabled (v.extractLsb' 0 3) = v.getLsbD 2 := by simp [tacEnabled]
  rw [← bit, ← writeTac_due]
  unfold writeTac
  simp only [schedule_cancel]
  rfl

/-- `Schedule` of an idle handle, after what left the scheduler alone (R173). -/
theorem schedule_of_sched {s t : State} {h : Handle} (same : t.sched = s.sched) (idle : s.isPending h = false) (d : Int) :
    t.schedule h d = t.setQueue (enqueue h ((s.now : Int) + d) s.sched.queue) := by
  have idle' : t.isPending h = false := by rwa [isPending, same]
  rw [schedule_idle idle', now, same]
  rfl

/-- `EV_TIMER_INC` in a state between cycles, with its own and the reload's entry gone (R436). -/
theorem timerIncEvent_idle {s : State} {late due : Int} (at_due : due = (s.sched.cycle : Int) - late)
    (staged : s.sched.staged = 0) (inc : s.isPending .timerInc = false) (reload : s.isPending .timerReload = false) :
    s.timerIncEvent late =
      { s with
        timer := { s.timer with tima := s.timer.tima + 1 }
        sched := { s.sched with
          queue := enqueue .timerInc (due + timaPeriod s.timer.tac)
            (if s.timer.tima = 0xFF then enqueue .timerReload (due + 4) s.sched.queue else s.sched.queue) } } := by
  have overflow : s.timer.tima + 1 = 0 ↔ s.timer.tima = 0xFF := by bv_omega
  have clock : (s.now : Int) = due + late := by simp only [now, staged]; omega
  rw [timerIncEvent_eq]
  unfold timerCount
  have inc_due : due + late + (timaPeriod s.timer.tac - late) = due + timaPeriod s.timer.tac := by omega
  generalize ({ s.timer with tima := s.timer.tima + 1 } : Timer) = count
  by_cases full : s.timer.tima = 0xFF
  · have reload_due : due + late + (timaReloadDelay - late) = due + 4 := by simp only [timaReloadDelay]; omega
    have inc' : ((s.setTimer count).setQueue (enqueue .timerReload (due + 4) s.sched.queue)).isPending .timerInc = false := by
      simpa [isPending] using inc
    rw [if_pos (overflow.2 full), if_pos full, cancel_idle (s := s.setTimer count) reload,
      schedule_of_sched (s := s) (t := s.setTimer count) rfl reload, clock, reload_due, schedule_idle inc', setQueue_now]
    change (((s.setTimer count).setQueue _).setQueue (enqueue .timerInc ((s.now : Int) + _) _)) = _
    rw [clock, inc_due]
    rfl
  · rw [if_neg (mt overflow.1 full), if_neg full, schedule_of_sched (s := s) (t := s.setTimer count) rfl inc, clock, inc_due]
    rfl

end State

/-- Settles O36: the registers by their rows of the I/O table, the re-arming by `schedule_cancel`, the events by definition. -/
theorem timerRegistersAndEvents : Obligations.TimerRegistersAndEvents := by
  refine ⟨fun s v h => ?_, fun s late due at_due staged => ⟨?_, rfl⟩⟩
  · have io := State.io_shared (v := v) h
    obtain ⟨divRead, divWrite⟩ := io 0x04 .div (by decide)
    obtain ⟨tacRead, tacWrite⟩ := io 0x07 .tac (by decide)
    refine ⟨⟨(io 0x05 .tima (by decide)).1, (io 0x05 .tima (by decide)).2, (io 0x06 .tma (by decide)).1,
      (io 0x06 .tma (by decide)).2, tacRead.trans s.readTac_eq⟩, divRead.trans s.readDiv_eq, ?_, ?_⟩
    · rintro period rfl -
      refine ⟨_, rfl, divWrite.trans ?_⟩
      rw [← timaPeriod_eq]
      exact s.writeDiv_eq
    · rintro period rfl -
      refine ⟨_, rfl, tacWrite.trans ?_⟩
      rw [← timaPeriod_byte]
      exact s.writeTac_eq v
  · rintro inc reload period rfl
    rw [← timaPeriod_eq]
    exact State.timerIncEvent_idle at_due staged inc reload

end Sys2Proof.Machine

/-! PROOFS. The host's calls (20_memory.md section 4, 41_cpu_engine.md section 1, 70_reset_and_hazards.md) and the reset states,
and the statements about them. -/

namespace Sys2Proof.Machine

/-! ## The frame loop -/

/-- A frame loop that answers `Ok` stopped in a state without a fault whose frame counter has changed (R190). -/
theorem runFrameLoop_ok {f0 fuel : Nat} {s : State} {x : Session} (ok : runFrameLoop f0 fuel s = (x, .ok ())) :
    ∃ t, x = .ready t ∧ t.fault = none ∧ t.ppu.frame ≠ f0 := by
  induction fuel generalizing s with
  | zero => cases ok
  | succ fuel ih =>
    unfold runFrameLoop at ok
    cases run : s.iterate with
    | fault f => rw [run] at ok; cases ok
    | refused r => rw [run] at ok; cases ok
    | next t =>
      simp only [run] at ok
      cases fault : t.fault with
      | some f => rw [fault] at ok; cases ok
      | none =>
        simp only [fault] at ok
        by_cases done : t.ppu.frame ≠ f0
        · rw [if_pos done] at ok
          cases ok
          exact ⟨t, rfl, fault, done⟩
        · rw [if_neg done] at ok
          exact ih ok

/-! ## Save states -/

namespace State

/-- The pixels of `Screen()` (R343). -/
theorem screen_getD (s : State) {k : Nat} (h : k < screenW * screenH) (c : Rgba) :
    (s.screen.take (screenW * screenH)).getD k c = sparseGet s.blankColour s.ppu.fb k := by
  have length : s.screen.length = screenW * screenH := by simp [screen]
  rw [List.take_of_length_le length.le]
  simp [screen, List.getD_eq_getElem?_getD, h]

/-- The header of a save state fits every core of its variant (R530). -/
theorem serialize_fits {s t : State} (same : t.cfg.model = s.cfg.model) : s.serialize.fits t.cfg.model = true := by
  simp [SaveState.fits, serialize, same]

/-- The framebuffer of a restored state (R530). -/
theorem restore_fb_eq (s : State) (cfg : Config) (cart : Cart) :
    (s.serialize.restore cfg cart).ppu.fb = sparseOfList (blankOf cfg) 0 (s.screen.take (screenW * screenH)) := by
  simp only [SaveState.restore, serialize]

/-- The framebuffer restored shows the pixels saved (R530). -/
theorem restore_pixel (s : State) (cfg : Config) (cart : Cart) {k : Nat} (h : k < screenW * screenH) :
    sparseGet (blankOf cfg) (s.serialize.restore cfg cart).ppu.fb k = sparseGet s.blankColour s.ppu.fb k := by
  have pixels := sparseGet_sparseOfList (dflt := blankOf cfg) (s.screen.take (screenW * screenH)) 0 k
  rw [Nat.zero_add, s.screen_getD h] at pixels
  rwa [restore_fb_eq]

/-- With the same parameters and a framebuffer in canonical form the restored framebuffer is the saved one. -/
theorem restore_fb {s : State} (wf : sparseWf s.blankColour (screenW * screenH) 0 s.ppu.fb = true) (cart : Cart) :
    (s.serialize.restore s.cfg cart).ppu.fb = s.ppu.fb := by
  have bound : 0 + (s.screen.take (screenW * screenH)).length ≤ screenW * screenH := by
    rw [Nat.zero_add]; exact List.length_take_le _ _
  have pixels := fun k h => s.restore_pixel s.cfg cart (k := k) h
  rw [restore_fb_eq] at pixels ⊢
  have restored := sparseOfList_wf (dflt := blankOf s.cfg) _ 0 _ bound
  refine sparse_ext _ _ (screenW * screenH) 0 restored wf fun k => ?_
  by_cases h : k < screenW * screenH
  · exact pixels k h
  · rw [sparseGet_above _ _ 0 k restored (not_lt.1 h)]
    exact (sparseGet_above _ _ 0 k wf (not_lt.1 h)).symm

/-- A restored state is the saved one but for the parameters, the fixed part of the cartridge and the framebuffer (R530). -/
theorem restore_eq (s : State) (cfg : Config) (cart : Cart) :
    s.serialize.restore cfg cart =
      { s with
        cfg := cfg, cart := { cart with hidden := s.cart.hidden }
        ppu := { s.ppu with fb := (s.serialize.restore cfg cart).ppu.fb } } := by
  rw [restore_fb_eq]
  simp only [SaveState.restore, serialize]

/-! ## The joypad and the serial port -/

/-- A key press changes the joypad and may request the Joypad interrupt (R114). -/
theorem keyInput_eq (s : State) (button : Nat) (pressed : Bool) :
    ∃ (joypad : Joypad) (request : Bool), s.keyInput button pressed = { s with
      joypad := joypad
      irq := { s.irq with pending := if request then s.irq.pending ||| 16 else s.irq.pending } } := by
  rcases key : Collab.joypadKey s.joypad.shown s.joypad.hidden button pressed with ⟨shown, hidden, request⟩
  refine ⟨{ shown := shown, hidden := hidden }, request, ?_⟩
  simp only [keyInput, key]
  cases request <;> rfl

/-- The serial port's own activity changes the serial port and may request the Serial interrupt (R115). -/
theorem serialActivity_eq (s : State) :
    ∃ (serial : Serial) (request : Bool), s.serialActivity = { s with
      serial := serial
      irq := { s.irq with pending := if request then s.irq.pending ||| 8 else s.irq.pending } } := by
  rcases tick : Collab.serialTick s.serial.sb s.serial.sc s.serial.hidden s.sched.cycle with ⟨sb, sc, hidden, request⟩
  refine ⟨{ sb := sb, sc := sc, hidden := hidden }, request, ?_⟩
  simp only [serialActivity, tick]
  cases request <;> rfl

end State

/-- Settles O52: the frame loop by induction, the save states by their pixels, the other calls by definition. -/
theorem hostProtocol : Obligations.HostProtocol := by
  refine ⟨fun s f fuel fault => ?_, fun s x fuel ok => ?_, fun s button pressed healthy => ⟨?_, ?_⟩, fun s t same => ?_,
    fun s b wrong => ?_⟩
  · simp only [runFrame, fault]
  · unfold runFrame at ok
    cases fault : s.fault with
    | some f => simp [fault] at ok
    | none =>
      simp only [fault] at ok
      exact runFrameLoop_ok ok
  · obtain ⟨joypad, request, key⟩ := s.keyInput_eq button pressed
    exact ⟨joypad, request, by simp only [setKeyInput, healthy, key]⟩
  · obtain ⟨serial, request, acts⟩ := s.serialActivity_eq
    exact ⟨serial, request, by simp only [serialActs, healthy, acts]⟩
  · refine ⟨s.serialize.restore t.cfg t.cart, ?_, rfl, rfl, ?_, fun x y hx hy => ?_, fun cfg cart wf => ?_⟩
    · simp only [deserialize, State.serialize_fits same, if_true]
    · rw [State.restore_eq]
    · refine s.restore_pixel t.cfg t.cart ?_
      simp only [screenW, screenH]; omega
    · obtain ⟨-, -, -, -, -, -, -, -, fb⟩ := wf
      rw [State.restore_eq, cfg, cart, State.restore_fb fb]
  · have misfit : b.fits s.cfg.model = false := by
      simp only [SaveState.fits, decide_eq_false_iff_not]
      tauto
    simp only [deserialize, misfit, Bool.false_eq_true, if_false]

/-! ## Reset -/

/-- Settles O53: the values of one concrete state. -/
theorem resetValues : Obligations.ResetValues := by
  refine ⟨rfl, rfl, rfl, by decide, ?_⟩
  decide

theorem whitePalette_wf : Memory.wf 64 whitePalette = true := by decide

/-- The queue of a reset state: three insertions, each of a new handle and of a due cycle ahead (R513). -/
theorem resetWith_sched (cfg : Config) (skip : Bool) (cart : Cart) (joypad : Joypad) (serial : Serial) (h : cfg.Admissible) :
    (State.resetWith cfg skip cart joypad serial).SchedInv := by
  obtain ⟨-, -, period, -⟩ := h
  refine ⟨rfl, fun p hp => ?_, ?_, ?_, ?_, ?_, ?_, ?_⟩
  · simp only [State.resetWith, Sched.reset, mem_enqueue] at hp ⊢
    rcases hp with rfl | rfl | rfl | hp
    · exact Int.natCast_pos.2 period
    · decide
    · cases skip <;> decide
    · cases hp
  · exact dueAscending_enqueue _ _ _ (dueAscending_enqueue _ _ _ rfl)
  · exact handlesDistinct_enqueue _ _ _ (by rw [isQueued_enqueue, isQueued_enqueue]; rfl)
      (handlesDistinct_enqueue _ _ _ (by rw [isQueued]; rfl) rfl)
  · simp [State.resetWith, Sched.reset, State.isPending]
  · simp [State.resetWith, Sched.reset, State.isPending]
  · simp [State.resetWith, Sched.reset, State.isPending]
  · simp [State.resetWith, Sched.reset, State.isPending, tacEnabled]
    rfl

theorem resetWith_mems (cfg : Config) (skip : Bool) (cart : Cart) (joypad : Joypad) (serial : Serial)
    (rom : Memory.wf cart.romSize cart.rom = true) : (State.resetWith cfg skip cart joypad serial).MemWf := by
  have palette : Memory.wf 64 (if skip && decide (cfg.model = .cgb) then whitePalette else []) = true := by
    split
    · exact whitePalette_wf
    · rfl
  exact ⟨rfl, rfl, rfl, rfl, rfl, palette, palette, rom, rfl⟩

theorem resetWith_dmg (cfg : Config) (skip : Bool) (cart : Cart) (joypad : Joypad) (serial : Serial) :
    (State.resetWith cfg skip cart joypad serial).DmgInv := by
  intro dmg
  have model : cfg.model = .dmg := dmg
  clear dmg
  cases skip <;> simp [State.resetWith, Cpu.reset, Mems.reset, Dma.reset, model]

theorem resetWith_ppu (cfg : Config) (skip : Bool) (cart : Cart) (joypad : Joypad) (serial : Serial) :
    (State.resetWith cfg skip cart joypad serial).PpuInv := by
  cases skip <;> simp [State.PpuInv, State.resetWith, Ppu.reset, Phase.mode, Ppu.on, Ppu.statLevel]

theorem resetWith_apu (cfg : Config) (skip : Bool) (cart : Cart) (joypad : Joypad) (serial : Serial) :
    (State.resetWith cfg skip cart joypad serial).ApuInv := by
  cases skip <;> simp [State.ApuInv, State.resetWith, Apu.reset, Square.reset, Sched.reset]

theorem resetWith_dma (cfg : Config) (skip : Bool) (cart : Cart) (joypad : Joypad) (serial : Serial) :
    (State.resetWith cfg skip cart joypad serial).dma.Inv := by
  simp [Dma.Inv, State.resetWith, Dma.reset]

/-- Settles O54: every part of a reset state is written out, and the sample period is positive. -/
theorem resetMeetsInvariant : Obligations.ResetMeetsInvariant := by
  have every : ∀ (cfg : Config) (skip : Bool) (cart : Cart) (joypad : Joypad) (serial : Serial), cfg.Admissible →
      Memory.wf cart.romSize cart.rom = true → (State.resetWith cfg skip cart joypad serial).Inv :=
    fun cfg skip cart joypad serial admissible rom =>
      ⟨admissible, rfl, resetWith_sched _ _ _ _ _ admissible, resetWith_mems _ _ _ _ _ rom, resetWith_dmg _ _ _ _ _,
        resetWith_ppu _ _ _ _ _, resetWith_apu _ _ _ _ _, resetWith_dma _ _ _ _ _⟩
  refine ⟨every _ _ _ _ _ (by decide) rfl, every⟩

end Sys2Proof.Machine

/-! PROOFS. What every operation keeps of the APU (R60 to R66): channel timers run, lengths and counters stay in range. -/

namespace Sys2Proof.Machine

/-! ## The ranges, channel by channel -/

/-- A square channel's timer runs, its length and its envelope timer are in range (R62 to R65). -/
structure Square.InRange (c : Square) : Prop where
  timer : 0 < c.timer
  length : c.length ≤ 64
  envTimer : c.envTimer ≤ 8

/-- The wave channel's timer runs, its length is in range (R62, R63). -/
structure Wave.InRange (c : Wave) : Prop where
  timer : 0 < c.timer
  length : c.length ≤ 256

/-- The noise channel's timer runs, its length and its envelope timer are in range (R62 to R65). -/
structure Noise.InRange (c : Noise) : Prop where
  timer : 0 < c.timer
  length : c.length ≤ 64
  envTimer : c.envTimer ≤ 8

/-- All channels and the sweep timer are in range (R62 to R66). -/
structure Apu.InRange (a : Apu) : Prop where
  ch1 : a.ch1.InRange
  ch2 : a.ch2.InRange
  ch3 : a.ch3.InRange
  ch4 : a.ch4.InRange
  sweep : a.sweep.timer ≤ 8

/-- The APU's invariant is the ranges, and no channel ahead of the cycle counter. -/
theorem State.apuInv_iff (s : State) : s.ApuInv ↔ s.apu.InRange ∧ s.apu.synced ≤ (s.sched.cycle : Int) := by
  constructor
  · rintro ⟨t1, t2, t3, t4, l1, l2, l3, l4, e1, e2, e4, sweep, synced⟩
    exact ⟨⟨⟨t1, l1, e1⟩, ⟨t2, l2, e2⟩, ⟨t3, l3⟩, ⟨t4, l4, e4⟩, sweep⟩, synced⟩
  · rintro ⟨⟨⟨t1, l1, e1⟩, ⟨t2, l2, e2⟩, ⟨t3, l3⟩, ⟨t4, l4, e4⟩, sweep⟩, synced⟩
    exact ⟨t1, t2, t3, t4, l1, l2, l3, l4, e1, e2, e4, sweep, synced⟩

/-! ## Catch-up -/

/-- The loop of `ApuCatchUp` keeps what an expiry and a positive timer keep (R376). -/
theorem runChannel_keeps {α : Type} {timer : α → Nat} {setTimer : α → Nat → α} {expire : α → α} {P : α → Prop}
    (expires : ∀ c, P c → P (expire c)) (counts : ∀ c t, P c → 0 < t → P (setTimer c t)) (fuel n : Nat) {c : α} (h : P c) :
    P (runChannel timer setTimer expire fuel n c) := by
  induction fuel generalizing n c with
  | zero => exact h
  | succ fuel ih =>
    rw [runChannel]
    split
    case isTrue => exact ih _ (expires c h)
    case isFalse early => exact counts c _ h (Nat.sub_pos_of_lt (not_le.1 early))

theorem Square.InRange.run {c : Square} (h : c.InRange) (n : Nat) : (c.run n).InRange :=
  runChannel_keeps (fun c h => ⟨c.period_pos, h.length, h.envTimer⟩) (fun _ _ h pos => ⟨pos, h.length, h.envTimer⟩) _ _ h

theorem Wave.InRange.run {c : Wave} (h : c.InRange) (wave : Memory) (n : Nat) : (c.run wave n).InRange :=
  runChannel_keeps (fun c h => ⟨c.period_pos, h.length⟩) (fun _ _ h pos => ⟨pos, h.length⟩) _ _ h

theorem Noise.InRange.run {c : Noise} (h : c.InRange) (n : Nat) : (c.run n).InRange :=
  runChannel_keeps (fun c h => ⟨c.period_pos, h.length, h.envTimer⟩) (fun _ _ h pos => ⟨pos, h.length, h.envTimer⟩) _ _ h

theorem Apu.InRange.catchUp {a : Apu} (h : a.InRange) (wave : Memory) (t : Int) : (a.catchUp wave t).InRange := by
  unfold Apu.catchUp
  simp only
  split
  · exact ⟨h.ch1.run _, h.ch2.run _, h.ch3.run _ _, h.ch4.run _, h.sweep⟩
  · exact ⟨h.ch1, h.ch2, h.ch3, h.ch4, h.sweep⟩

@[simp] theorem Apu.catchUp_synced (a : Apu) (wave : Memory) (t : Int) : (a.catchUp wave t).synced = t := by
  unfold Apu.catchUp
  simp only
  split <;> rfl

/-! ## The frame sequencer -/

theorem lengthClock_le {lenEn : Bool} {length bound : Nat} {enabled : Bool} (h : length ≤ bound) :
    (lengthClock lenEn length enabled).1 ≤ bound := by
  unfold lengthClock
  split
  · exact (Nat.sub_le ..).trans h
  · exact h

theorem envelopeClock_le {nr2 : Byte} {envTimer : Nat} {volume : BitVec 4} (h : envTimer ≤ 8) :
    (envelopeClock nr2 envTimer volume).1 ≤ 8 := by
  have period := (nr2.extractLsb' 0 3).isLt
  unfold envelopeClock
  simp only
  split
  · exact h
  · split
    · simp only; omega
    · exact (Nat.sub_le ..).trans h

theorem Apu.InRange.clockLength {a : Apu} (h : a.InRange) : a.clockLength.InRange :=
  ⟨⟨h.ch1.timer, lengthClock_le h.ch1.length, h.ch1.envTimer⟩, ⟨h.ch2.timer, lengthClock_le h.ch2.length, h.ch2.envTimer⟩,
    ⟨h.ch3.timer, lengthClock_le h.ch3.length⟩, ⟨h.ch4.timer, lengthClock_le h.ch4.length, h.ch4.envTimer⟩, h.sweep⟩

theorem Apu.InRange.clockEnvelope {a : Apu} (h : a.InRange) : a.clockEnvelope.InRange :=
  ⟨⟨h.ch1.timer, h.ch1.length, envelopeClock_le h.ch1.envTimer⟩, ⟨h.ch2.timer, h.ch2.length, envelopeClock_le h.ch2.envTimer⟩,
    h.ch3, ⟨h.ch4.timer, h.ch4.length, envelopeClock_le h.ch4.envTimer⟩, h.sweep⟩

/-- A sweep check changes the enabled flag of channel 1 at most. -/
theorem Apu.InRange.sweepCheck {a : Apu} (h : a.InRange) : a.sweepCheck.InRange := by
  rw [Apu.sweepCheck_enabled]
  exact ⟨⟨h.ch1.timer, h.ch1.length, h.ch1.envTimer⟩, h.ch2, h.ch3, h.ch4, h.sweep⟩

/-- What the sweep timer is loaded with. -/
theorem Apu.sweepLoad_le (a : Apu) : (if a.sweepInterval = 0 then 8 else a.sweepInterval) ≤ 8 := by
  have := a.sweepInterval_eq
  split <;> omega

theorem Apu.InRange.sweepReload {a : Apu} (h : a.InRange) : a.sweepReload.InRange :=
  ⟨h.ch1, h.ch2, h.ch3, h.ch4, a.sweepReload_timer ▸ a.sweepLoad_le⟩

theorem Apu.InRange.sweepReplace {a : Apu} (h : a.InRange) : a.sweepReplace.InRange :=
  ⟨⟨h.ch1.timer, h.ch1.length, h.ch1.envTimer⟩, h.ch2, h.ch3, h.ch4, h.sweep⟩

theorem Apu.InRange.clockSweep {a : Apu} (h : a.InRange) : a.clockSweep.InRange := by
  by_cases ends : a.sweep.timer ≤ 1
  · rw [Apu.clockSweep_interval ends]
    split
    · split
      · exact h.sweepReload.sweepReplace.sweepCheck
      · exact h.sweepReload.sweepCheck
    · exact h.sweepReload
  · have counts : a.sweep.timer - 1 ≠ 0 := by omega
    rw [Apu.clockSweep, if_neg counts]
    exact ⟨h.ch1, h.ch2, h.ch3, h.ch4, (Nat.sub_le ..).trans h.sweep⟩

theorem Apu.InRange.frameStep {a : Apu} (h : a.InRange) : a.frameStep.InRange := by
  have turn {b : Apu} (h : b.InRange) (step : BitVec 3) : ({ b with fsStep := step } : Apu).InRange :=
    ⟨h.ch1, h.ch2, h.ch3, h.ch4, h.sweep⟩
  have choice {p : Prop} [Decidable p] {b c : Apu} (hb : b.InRange) (hc : c.InRange) : (if p then b else c).InRange := by
    split
    · exact hb
    · exact hc
  unfold Apu.frameStep
  have length := choice (p := a.fsStep.toNat % 2 = 0) h.clockLength h
  have sweep := choice (p := a.fsStep.toNat = 2 ∨ a.fsStep.toNat = 6) length.clockSweep length
  exact choice (turn (choice (p := a.fsStep.toNat = 7) sweep.clockEnvelope sweep) _) h

/-! ## Register writes -/

theorem envReload_le (v : Byte) : envReload v ≤ 8 := by
  rw [envReload_eq]
  split <;> omega

/-- A length that has run out is loaded, another is kept (R400). -/
theorem lengthReload_le {length full : Nat} (h : length ≤ full) : (if length = 0 then full else length) ≤ full := by
  split
  · exact le_rfl
  · exact h

theorem Square.InRange.trigger {c : Square} (h : c.InRange) : c.trigger.InRange :=
  ⟨c.period_pos, lengthReload_le h.length, envReload_le _⟩

theorem Wave.InRange.trigger {c : Wave} (h : c.InRange) : c.trigger.InRange :=
  ⟨c.period_pos, lengthReload_le h.length⟩

theorem Noise.InRange.trigger {c : Noise} (h : c.InRange) : c.trigger.InRange :=
  ⟨c.period_pos, lengthReload_le h.length, envReload_le _⟩

theorem Apu.InRange.sweepLoad {a : Apu} (h : a.InRange) : a.sweepLoad.InRange :=
  ⟨h.ch1.trigger, h.ch2, h.ch3, h.ch4, a.sweepLoad_le⟩

theorem Apu.InRange.trigger1 {a : Apu} (h : a.InRange) : a.trigger1.InRange := by
  rw [Apu.trigger1_eq]
  split
  · exact h.sweepLoad
  · exact h.sweepLoad.sweepCheck

theorem Apu.InRange.writeOn {a : Apu} (h : a.InRange) (r : ApuReg) (v : Byte) : (a.writeOn r v).InRange := by
  obtain ⟨h1, h2, h3, h4, sweep⟩ := h
  cases r with
  | nr10 => exact ⟨h1, h2, h3, h4, sweep⟩
  | nr11 => exact ⟨⟨h1.timer, Nat.sub_le .., h1.envTimer⟩, h2, h3, h4, sweep⟩
  | nr12 | nr13 => exact ⟨⟨h1.timer, h1.length, h1.envTimer⟩, h2, h3, h4, sweep⟩
  | nr14 =>
    have plain : ({ a with ch1 := a.ch1.writeNr4 v } : Apu).InRange := ⟨⟨h1.timer, h1.length, h1.envTimer⟩, h2, h3, h4, sweep⟩
    simp only [Apu.writeOn]
    split
    · exact plain.trigger1
    · exact plain
  | nr21 => exact ⟨h1, ⟨h2.timer, Nat.sub_le .., h2.envTimer⟩, h3, h4, sweep⟩
  | nr22 | nr23 => exact ⟨h1, ⟨h2.timer, h2.length, h2.envTimer⟩, h3, h4, sweep⟩
  | nr24 =>
    have plain : (a.ch2.writeNr4 v).InRange := ⟨h2.timer, h2.length, h2.envTimer⟩
    simp only [Apu.writeOn]
    split
    · exact ⟨h1, plain.trigger, h3, h4, sweep⟩
    · exact ⟨h1, plain, h3, h4, sweep⟩
  | nr30 | nr32 | nr33 => exact ⟨h1, h2, ⟨h3.timer, h3.length⟩, h4, sweep⟩
  | nr31 => exact ⟨h1, h2, ⟨h3.timer, Nat.sub_le ..⟩, h4, sweep⟩
  | nr34 =>
    have plain : (a.ch3.writeNr4 v).InRange := ⟨h3.timer, h3.length⟩
    simp only [Apu.writeOn]
    split
    · exact ⟨h1, h2, plain.trigger, h4, sweep⟩
    · exact ⟨h1, h2, plain, h4, sweep⟩
  | nr41 => exact ⟨h1, h2, h3, ⟨h4.timer, Nat.sub_le .., h4.envTimer⟩, sweep⟩
  | nr42 | nr43 => exact ⟨h1, h2, h3, ⟨h4.timer, h4.length, h4.envTimer⟩, sweep⟩
  | nr44 =>
    have plain : ({ a.ch4 with lenEn := v.getLsbD 6 } : Noise).InRange := ⟨h4.timer, h4.length, h4.envTimer⟩
    simp only [Apu.writeOn]
    split
    · exact ⟨h1, h2, h3, plain.trigger, sweep⟩
    · exact ⟨h1, h2, h3, plain, sweep⟩
  | nr50 | nr51 => exact ⟨h1, h2, h3, h4, sweep⟩

theorem Apu.InRange.writeOff {a : Apu} (h : a.InRange) (r : ApuReg) (v : Byte) : (a.writeOff r v).InRange := by
  obtain ⟨h1, h2, h3, h4, sweep⟩ := h
  cases r with
  | nr11 => exact ⟨⟨h1.timer, Nat.sub_le .., h1.envTimer⟩, h2, h3, h4, sweep⟩
  | nr21 => exact ⟨h1, ⟨h2.timer, Nat.sub_le .., h2.envTimer⟩, h3, h4, sweep⟩
  | nr31 => exact ⟨h1, h2, ⟨h3.timer, Nat.sub_le ..⟩, h4, sweep⟩
  | nr41 => exact ⟨h1, h2, h3, ⟨h4.timer, Nat.sub_le .., h4.envTimer⟩, sweep⟩
  | _ => exact ⟨h1, h2, h3, h4, sweep⟩

theorem Apu.InRange.write {a : Apu} (h : a.InRange) (r : ApuReg) (v : Byte) : (a.write r v).InRange := by
  unfold Apu.write
  split
  · exact h.writeOn r v
  · exact h.writeOff r v

theorem Apu.InRange.powerOff {a : Apu} (h : a.InRange) : a.powerOff.InRange :=
  ⟨⟨h.ch1.timer, h.ch1.length, Nat.zero_le _⟩, ⟨h.ch2.timer, h.ch2.length, Nat.zero_le _⟩, ⟨h.ch3.timer, h.ch3.length⟩,
    ⟨h.ch4.timer, h.ch4.length, Nat.zero_le _⟩, Nat.zero_le _⟩

theorem Apu.InRange.powerOn {a : Apu} (h : a.InRange) : a.powerOn.InRange :=
  ⟨⟨a.ch1.period_pos, h.ch1.length, h.ch1.envTimer⟩, ⟨a.ch2.period_pos, h.ch2.length, h.ch2.envTimer⟩,
    ⟨a.ch3.period_pos, h.ch3.length⟩, ⟨a.ch4.period_pos, h.ch4.length, h.ch4.envTimer⟩, h.sweep⟩

theorem Apu.InRange.writeNr52 {a : Apu} (h : a.InRange) (v : Byte) : (a.writeNr52 v).InRange := by
  unfold Apu.writeNr52
  split
  · exact h.powerOff
  · exact h.powerOn
  · exact h
  · exact h

/-! Nothing but a catch-up moves the time a channel is caught up to. -/

@[simp] theorem Apu.clockSweep_synced (a : Apu) : a.clockSweep.synced = a.synced := by
  by_cases ends : a.sweep.timer ≤ 1
  · rw [Apu.clockSweep_interval ends]
    simp only [Apu.sweepCheck_enabled]
    split
    · split <;> rfl
    · rfl
  · have counts : a.sweep.timer - 1 ≠ 0 := by omega
    rw [Apu.clockSweep, if_neg counts]

@[simp] theorem Apu.clockLength_synced (a : Apu) : a.clockLength.synced = a.synced := rfl

@[simp] theorem Apu.clockEnvelope_synced (a : Apu) : a.clockEnvelope.synced = a.synced := rfl

@[simp] theorem Apu.frameStep_synced (a : Apu) : a.frameStep.synced = a.synced := by
  simp [Apu.frameStep, apply_ite Apu.synced]

@[simp] theorem Apu.trigger1_synced (a : Apu) : a.trigger1.synced = a.synced := by
  rw [Apu.trigger1_enabled a rfl]
  rfl

@[simp] theorem Apu.write_synced (a : Apu) (r : ApuReg) (v : Byte) : (a.write r v).synced = a.synced := by
  have on : (a.writeOn r v).synced = a.synced := by
    cases r with
    | nr14 => simp [Apu.writeOn, apply_ite Apu.synced]
    | _ => rfl
  have off : (a.writeOff r v).synced = a.synced := by cases r <;> rfl
  simp [Apu.write, apply_ite Apu.synced, on, off]

@[simp] theorem Apu.writeNr52_synced (a : Apu) (v : Byte) : (a.writeNr52 v).synced = a.synced := by
  unfold Apu.writeNr52
  split <;> rfl

end Sys2Proof.Machine

/-! PROOFS. One step taken apart: what the CPU does before `Commit`, as a sequence of three kinds of update. -/

namespace Sys2Proof.Machine

/-- `t` is `s` after any number of updates of the CPU, bus writes and acknowledged interrupts. On a DMG the CPU's updates leave
the speed bits alone. -/
inductive Effects (s : State) : State → Prop where
  | refl : Effects s s
  | cpu {t : State} (h : Effects s t) (c : Cpu)
      (dmg : t.cfg.model = .dmg → c.speed = t.cpu.speed ∧ c.speedArmed = t.cpu.speedArmed) : Effects s (t.setCpu c)
  | write {t : State} (h : Effects s t) (a : Word) (v : Byte) : Effects s (t.busWrite a v)
  | acknowledge {t : State} (h : Effects s t) (i : Nat) : Effects s (t.acknowledge i)

namespace Effects

variable {s t : State}

/-- An update of the CPU that keeps the speed bits. -/
theorem cpuKeep (h : Effects s t) (c : Cpu) (speed : c.speed = t.cpu.speed) (armed : c.speedArmed = t.cpu.speedArmed) :
    Effects s (t.setCpu c) :=
  h.cpu c fun _ => ⟨speed, armed⟩

theorem touches {store : Bool} {u : State} (h : Effects s t) (touched : Touches store t u) : Effects s u := by
  induction touched with
  | refl => exact h
  | regs _ c same ih => exact ih.cpuKeep c same.speed same.speedArmed
  | write _ _ a v ih => exact ih.write a v

theorem settleIme (h : Effects s t) (b : Bool) : Effects s (t.settleIme b) := by
  unfold State.settleIme
  split
  · exact h.cpuKeep _ rfl rfl
  · exact h

theorem wake (h : Effects s t) : Effects s t.wake := h.cpuKeep _ rfl rfl

theorem skipBytes (h : Effects s t) (n : Nat) : Effects s (t.skipBytes n) := h.cpuKeep _ rfl rfl

end Effects

/-- The staged cycles of a completed instruction (R196). -/
theorem State.mc_pos (s : State) : 0 < s.mc := by
  unfold State.mc
  split <;> decide

/-- Every form with an entry but 0xCB has effects and is charged. -/
theorem execForm_effects {s t : State} (h : Effects s t) (f : Form) (notIllegal : ∀ op, f ≠ .illegal op)
    (notCb : f ≠ .prefixCB) : ∃ u n, Effects s u ∧ 0 < n ∧ execForm f t = .next (u.advance n) := by
  cases control : f.controls with
  | true =>
    obtain ⟨c, n, update, pos, run⟩ := execForm_control f t control
    exact ⟨_, _, h.cpu c fun dmg => update.speed (.inr dmg), Nat.mul_pos pos (State.mc_pos _), run⟩
  | false =>
    obtain ⟨u, n, touched, pos, run⟩ := execForm_completes f t control notIllegal notCb
    exact ⟨_, _, h.touches touched, Nat.mul_pos pos (State.mc_pos _), run⟩

/-- Every instruction but an opcode without an entry has effects and is charged. -/
theorem exec_effects {s t : State} (h : Effects s t) (i : Instr) (notIllegal : ∀ op, i ≠ .illegal op) :
    ∃ u n, Effects s u ∧ 0 < n ∧ exec i t = .next (u.advance n) := by
  by_cases cb : i = .prefixCB
  · subst cb
    obtain ⟨-, plain, notCb⟩ := decodeExtended_plain (t.busRead t.cpu.pc)
    exact execForm_effects (t := t.setPc (t.cpu.pc + 1)) (h.cpuKeep _ rfl rfl) _ plain notCb
  · have form {f : Form} (e : i.form = f) : i = f.instr := by rw [← e, Instr.instr_form]
    rw [exec_eq_execForm i t cb]
    exact execForm_effects h _ (fun op e => notIllegal op (form e)) (fun e => cb (form e))

namespace State

/-- `Step()` at an opcode with an entry has effects and is charged (R193). -/
theorem cpuStep_effects {s t : State} (h : Effects s t) (legal : t.busRead t.cpu.pc ∉ illegalOpcodes) :
    ∃ u n, Effects s u ∧ 0 < n ∧ t.cpuStep = .next (u.advance n) := by
  obtain ⟨i, rest, read, -, -, entry⟩ := opcodeMapTotal (t.busRead t.cpu.pc) (t.busRead (t.cpu.pc + 1)) (t.busRead (t.cpu.pc + 2))
  obtain ⟨u, n, effects, pos, run⟩ := exec_effects (h.skipBytes i.length) i fun op e => legal (entry.1 ⟨op, e⟩)
  have settled : (u.advance n).settleIme t.cpu.imePending = (u.settleIme t.cpu.imePending).advance n := by
    unfold settleIme
    cases pending : (t.cpu.imePending && u.cpu.imePending) <;> simp only [advance_cpu, pending] <;> rfl
  exact ⟨_, n, effects.settleIme _, pos, settled ▸ cpuStep_next read run⟩

end State

/-! ## No bus write faults -/

namespace State

/-- The writes that schedule an event cancel it first: none is a misuse of the scheduler (R174, R175). -/
theorem ioWrite_fault (s : State) (r : IoReg) (v : Byte) : (s.ioWrite r v).fault = s.fault := by
  cases r with
  | lcdc =>
    simp only [ioWrite, writeLcdc_eq, displayOff_eq, displayOn_eq _ rfl]
    split
    · rfl
    · split
      · exact statUpdate_fault _
      · rfl
  | div => simp only [ioWrite, writeDiv_eq]; split <;> rfl
  | tac => simp only [ioWrite, writeTac_eq]; split <;> rfl
  | dma => simp only [ioWrite, writeDma, schedule_cancel]; rfl
  | hdma5 => simp only [ioWrite, writeHdma5]; split <;> (try split) <;> simp
  | bootOff => simp only [ioWrite, writeBootOff]; split <;> rfl
  | _ =>
    simp [ioWrite, joypadWrite, serialWrite, writeIf, writeKey1, apuWrite, writeNr52, writeWave, writeStat, writeLyc, writeBcpd,
      writeOcpd]

/-- What a bus write keeps: a property that writes of the cartridge, of a storage place inside its memory, of a register that
the address decodes to and of IE keep. -/
theorem busWrite_induct {P : State → Prop} {s : State} (a : Word) (v : Byte) (h : P s)
    (cart : ∀ hidden, P { s with cart := { s.cart with hidden := hidden } })
    (store : P (s.setMems (s.mems.store (s.region a) v))) (io : ∀ r, s.region a = .io r → P (s.ioWrite r v))
    (ie : P (s.writeIe v)) : P (s.busWrite a v) := by
  unfold busWrite
  cases place : s.region a with
  | boot | unmapped => exact h
  | cart k =>
    simp only [cartWrite]
    split
    · exact h
    · exact cart _
  | vram k | oam k =>
    rw [place] at store
    simp only
    split
    · exact h
    · exact store
  | wram k | hram k => rw [place] at store; exact store
  | io r => exact io r place
  | ie => exact ie

@[simp] theorem busWrite_fault (s : State) (a : Word) (v : Byte) : (s.busWrite a v).fault = s.fault :=
  busWrite_induct (P := fun t => t.fault = s.fault) a v rfl (fun _ => rfl) rfl (fun r _ => s.ioWrite_fault r v) rfl

end State

theorem Effects.fault {s t : State} (h : Effects s t) : t.fault = s.fault := by
  induction h with
  | refl => rfl
  | cpu _ c _ ih => exact ih
  | write _ a v ih => rwa [State.busWrite_fault]
  | acknowledge _ i ih => exact ih

/-! ## One iteration -/

/-- How an iteration from `s` ends: with `Commit` after effects and a charge, in the fatal error of an opcode without an entry,
or, halted with no event pending, in the scheduler's fault (R191). -/
inductive Ends (s : State) (r : StepResult) : Prop where
  | commits (u : State) (n : Nat) (effects : Effects s u) (pos : s.SchedInv → 0 < n) (eq : r = .next (u.advance n).commit)
  | illegal (t : State) (opcode : s.busRead s.cpu.pc ∈ illegalOpcodes) (fault : t.fault = s.fault)
      (eq : r = .next (t.raiseFault (.undefinedOpcode (s.busRead s.cpu.pc) s.cpu.pc)))
  | noEvent (t : State) (empty : s.sched.queue = []) (eq : r = .next (t.raiseFault (.schedulerMisuse none)))

/-- The half of an iteration that runs an instruction or lets time jump, of a state as it was or just woken. -/
theorem runOrIdle_ends {s t : State} (healthy : s.fault = none) (woken : t = s ∨ t = s.wake) : Ends s t.runOrIdle := by
  have effects : Effects s t := by
    rcases woken with rfl | rfl
    · exact .refl
    · exact Effects.refl.wake
  have sched : t.sched = s.sched := by rcases woken with rfl | rfl <;> rfl
  have fault : t.fault = s.fault := by rcases woken with rfl | rfl <;> rfl
  have opcode : t.busRead t.cpu.pc = s.busRead s.cpu.pc := by rcases woken with rfl | rfl <;> rfl
  have pc : t.cpu.pc = s.cpu.pc := by rcases woken with rfl | rfl <;> rfl
  cases halted : t.cpu.halted with
  | true =>
    cases queue : s.sched.queue with
    | nil => exact .noEvent t queue (by simp [State.runOrIdle, State.untilNextEvent, halted, sched, queue])
    | cons p rest =>
      obtain ⟨h, due⟩ := p
      refine .commits t _ effects (fun inv => ?_) (State.runOrIdle_halted halted (sched ▸ queue))
      obtain ⟨staged, ahead, -⟩ := inv
      have := ahead (h, due) (by rw [queue]; exact List.mem_cons_self)
      simp only [State.now, sched, staged] at this ⊢
      omega
  | false =>
    by_cases legal : s.busRead s.cpu.pc ∈ illegalOpcodes
    · refine .illegal t legal fault ?_
      rw [State.runOrIdle_fault halted (State.cpuStep_illegal (opcode ▸ legal)), opcode, pc]
    · obtain ⟨u, n, effects, pos, run⟩ := State.cpuStep_effects effects (opcode ▸ legal)
      exact .commits u n effects (fun _ => pos) (State.runOrIdle_next halted run (effects.fault.trans healthy))

/-- How an iteration of a state without a fault ends (R191). -/
theorem iterate_ends {s : State} (healthy : s.fault = none) : Ends s s.iterate := by
  by_cases dispatch : s.serviceable ≠ 0 ∧ s.cpu.ime = true
  · rw [State.iterate_of_dispatch dispatch.1 dispatch.2, State.serviceInterrupt_eq]
    have cleared : Effects s (s.wake.setIme false false) := Effects.refl.wake.cpuKeep _ rfl rfl
    exact .commits _ _ ((cleared.acknowledge _).touches (Touches.refl.callTo _)) (fun _ => Nat.mul_pos (by decide) (State.mc_pos _)) rfl
  · have none : s.serviceable = 0 ∨ s.cpu.ime = false := by
      rw [not_and_or, not_not, Bool.not_eq_true] at dispatch
      exact dispatch
    rw [State.iterate_of_no_dispatch none]
    split
    · exact runOrIdle_ends healthy (.inl rfl)
    · exact runOrIdle_ends healthy (.inr rfl)

/-- A step that answers a next state is effects, a charge and `Commit` (R190, R191). -/
theorem step_effects {s t : State} (h : step s = .next t) :
    ∃ u n, Effects s u ∧ (s.SchedInv → 0 < n) ∧ t = (u.advance n).commit ∧ t.fault = none := by
  obtain ⟨healthy, ok, run⟩ := step_next h
  cases iterate_ends healthy with
  | commits u n effects pos eq =>
    rw [eq] at run
    cases run
    exact ⟨u, n, effects, pos, rfl, ok⟩
  | illegal v _ _ eq =>
    rw [eq] at run
    cases run
    exact absurd ok (State.raiseFault_ne_none _ _)
  | noEvent v _ eq =>
    rw [eq] at run
    cases run
    exact absurd ok (State.raiseFault_ne_none _ _)

end Sys2Proof.Machine

/-! PROOFS. What no step changes: the parameters, the cartridge's fixed part, and on a DMG what only a CGB has. -/

namespace Sys2Proof.Machine

namespace State

/-- What only a CGB has (R33, R37, R39, R41, R468). -/
def cgbPart (s : State) : Bool × Bool × BitVec 1 × BitVec 3 × Memory × Memory × Bool × Bool × Nat :=
  (s.cpu.speed, s.cpu.speedArmed, s.mems.vbk, s.mems.svbk, s.mems.bgPal, s.mems.objPal, s.dma.active, s.dma.complete,
    s.dma.remaining)

/-- The DMG's invariant is kept by what on a DMG leaves the CGB's part alone. -/
theorem DmgInv.of_cgbPart {s t : State} (h : s.DmgInv) (cfg : t.cfg = s.cfg)
    (same : s.cfg.model = .dmg → t.cgbPart = s.cgbPart) : t.DmgInv := by
  intro dmg
  rw [cfg] at dmg
  have reset := h dmg
  have same := same dmg
  simp only [cgbPart, Prod.mk.injEq] at same
  obtain ⟨speed, armed, vbk, svbk, bgPal, objPal, active, complete, remaining⟩ := same
  rw [speed, armed, vbk, svbk, bgPal, objPal, active, complete, remaining]
  exact reset

@[simp] theorem schedule_cgbPart (s : State) (h : Handle) (d : Int) : (s.schedule h d).cgbPart = s.cgbPart := by
  simp [cgbPart]

@[simp] theorem statUpdate_cgbPart (s : State) : s.statUpdate.cgbPart = s.cgbPart := by
  simp [cgbPart]

@[simp] theorem raiseFault_cgbPart (s : State) (f : Fault) : (s.raiseFault f).cgbPart = s.cgbPart := by
  simp [cgbPart]

/-- A register that a DMG has too holds nothing of what only a CGB has (R92). -/
theorem ioWrite_cgbPart (s : State) {r : IoReg} (shared : r.cgbOnly = false) (v : Byte) :
    (s.ioWrite r v).cgbPart = s.cgbPart := by
  cases r with
  | key1 | vbk | svbk | hdma1 | hdma2 | hdma3 | hdma4 | hdma5 | bcps | bcpd | ocps | ocpd => nomatch shared
  | lcdc =>
    simp only [ioWrite, writeLcdc_eq, displayOff_eq, displayOn_eq _ rfl]
    split
    · rfl
    · split
      · exact statUpdate_cgbPart _
      · rfl
  | div => simp only [ioWrite, writeDiv_eq]; split <;> rfl
  | tac => simp only [ioWrite, writeTac_eq]; split <;> rfl
  | bootOff => simp only [ioWrite, writeBootOff]; split <;> rfl
  | _ =>
    simp [cgbPart, ioWrite, joypadWrite, serialWrite, writeIf, apuWrite, writeNr52, writeWave, writeStat, writeLyc, writeDma]

/-- Storage but palette memory holds nothing of what only a CGB has. -/
theorem store_cgbPart (s : State) (r : Region) (v : Byte) : (s.setMems (s.mems.store r v)).cgbPart = s.cgbPart := by
  cases r <;> rfl

/-- On a DMG a bus write changes nothing of what only a CGB has (R91, R92). -/
theorem busWrite_cgbPart {s : State} (dmg : s.cfg.model = .dmg) (a : Word) (v : Byte) :
    (s.busWrite a v).cgbPart = s.cgbPart := by
  refine busWrite_induct (P := fun t => t.cgbPart = s.cgbPart) a v rfl (fun _ => rfl) (s.store_cgbPart _ v) (fun r place => ?_) rfl
  have shared : r.cgbOnly = false := by
    refine Bool.eq_false_iff.2 fun only => ?_
    have cgb := region_io_cgbOnly place only
    rw [dmg] at cgb
    cases cgb
  exact s.ioWrite_cgbPart shared v

/-- On a DMG no callback changes anything of what only a CGB has (R466). -/
theorem turn_cgbPart {s : State} (dmg : s.cfg.model = .dmg) (h : Handle) (late : Int) :
    (s.turn h late).cgbPart = s.cgbPart := by
  cases h with
  | ppu =>
    simp only [turn, ppuTurn]
    cases s.ppu.phase with
    | off => rfl
    | m2 => exact statUpdate_cgbPart _
    | m3 =>
      obtain ⟨fb, w, picture⟩ := s.hblankPicture_eq
      simp only [hblankEntry_eq, picture]
      rw [hblankDmaStep_idle]
      · exact statUpdate_cgbPart _
      · rw [statUpdate_cfg]
        exact .inl dmg
    | m0 => simp only; split <;> exact statUpdate_cgbPart _
    | m1 => simp only; split <;> exact statUpdate_cgbPart _
  | timerInc =>
    simp only [turn, timerCount]
    split
    · exact schedule_cgbPart _ _ _
    · rfl
  | timerReload | apuFs | apuSample => rfl
  | oamDma => simp [turn, oamDmaEvent, cgbPart]

theorem fire_cgbPart {s : State} (dmg : s.cfg.model = .dmg) (h : Handle) (late : Int) :
    (s.fire h late).cgbPart = s.cgbPart := by
  cases recurs : s.wait h with
  | some d => rw [fire_recurring recurs, schedule_cgbPart, turn_cgbPart dmg]
  | none => rw [fire_once recurs, turn_cgbPart dmg]

/-- `Commit` keeps the DMG's invariant. -/
theorem commit_dmg {s : State} (h : s.DmgInv) : s.commit.DmgInv := by
  refine commitLoop_induct DmgInv ?_ ?_ _ _ h
  · intro s h due rest inv _ _ _
    exact DmgInv.of_cgbPart (s := s) inv (fire_frame _ _ _).1 fun dmg => fire_cgbPart (s := s.setQueue rest) dmg _ _
  · intro s inv _
    exact inv.of_cgbPart (raiseFault_cfg _ _) fun _ => raiseFault_cgbPart _ _

/-- `Commit` leaves the cartridge alone. -/
theorem commit_cart (s : State) : s.commit.cart = s.cart :=
  commit_keeps (fun s => s.cart) (fun _ => rfl) (fun _ _ => rfl) (fun s h late => (fire_frame s h late).2.2.1) raiseFault_cart s

end State

namespace Effects

variable {s t : State}

theorem cfg (h : Effects s t) : t.cfg = s.cfg := by
  induction h with
  | refl => rfl
  | cpu _ c _ ih => exact ih
  | write _ a v ih => exact (State.busWrite_frame _ a v).1.trans ih
  | acknowledge _ i ih => exact ih

theorem cart (h : Effects s t) : ∃ hidden, t.cart = { s.cart with hidden := hidden } := by
  induction h with
  | refl => exact ⟨_, rfl⟩
  | cpu _ c _ ih => exact ih
  | @write u _ a v ih =>
    obtain ⟨before, eq⟩ := ih
    obtain ⟨after, write⟩ := u.busWrite_cart a v
    exact ⟨after, by rw [write, eq]⟩
  | acknowledge _ i ih => exact ih

theorem dmg (h : Effects s t) (inv : s.DmgInv) : t.DmgInv := by
  induction h with
  | refl => exact inv
  | cpu _ c keeps ih =>
    refine ih.of_cgbPart rfl fun dmg => ?_
    obtain ⟨speed, armed⟩ := keeps dmg
    simp [State.cgbPart, speed, armed]
  | write _ a v ih => exact ih.of_cgbPart (State.busWrite_frame _ a v).1 fun dmg => State.busWrite_cgbPart dmg a v
  | acknowledge _ i ih => exact ih

end Effects

/-- Settles O59: effects and `Commit` keep all three. -/
theorem stepKeepsParameters : Obligations.StepKeepsParameters := by
  intro s t run
  obtain ⟨u, n, effects, -, rfl, -⟩ := step_effects run
  refine ⟨?_, ?_, fun inv => State.commit_dmg (s := u.advance n) (effects.dmg inv)⟩
  · rw [State.commit_cfg]; exact effects.cfg
  · rw [State.commit_cart]; exact effects.cart

end Sys2Proof.Machine

/-! PROOFS. What every operation keeps of the devices: memories, PPU, APU and DMA engines. -/

namespace Sys2Proof.Machine

/-! ## The parts -/

/-- Phase, mode and LY agree and the counters are in range: the PPU's invariant but for `stat_prev` (R52, R322, R339). -/
structure Ppu.Agrees (p : Ppu) : Prop where
  mode : p.mode = p.phase.mode
  off : p.phase = .off ↔ p.on = false
  blank : p.phase = .off → p.ly = 0
  vblank : p.phase = .m1 → 144 ≤ p.ly.toNat ∧ p.ly.toNat ≤ 153
  visible : p.phase = .m2 ∨ p.phase = .m3 ∨ p.phase = .m0 → p.ly.toNat ≤ 143
  scan : p.scan.length ≤ 10
  m3Extra : p.m3Extra ≤ 203

/-- The agreement is about six items only. -/
theorem Ppu.Agrees.congr {p q : Ppu} (h : p.Agrees) (on : q.on = p.on) (mode : q.mode = p.mode) (phase : q.phase = p.phase)
    (ly : q.ly = p.ly) (scan : q.scan = p.scan) (m3Extra : q.m3Extra = p.m3Extra) : q.Agrees := by
  obtain ⟨h1, h2, h3, h4, h5, h6, h7⟩ := h
  rw [← on, ← phase] at h2
  rw [← phase] at h1 h3 h4 h5
  rw [← ly] at h3 h4 h5
  exact ⟨mode.trans h1, h2, h3, h4, h5, scan ▸ h6, m3Extra ▸ h7⟩

/-- `stat_prev` is the level of the STAT line (R333). -/
def Ppu.Settled (p : Ppu) : Prop := p.statPrev = (p.on && p.statLevel)

theorem State.ppuInv_iff (s : State) : s.PpuInv ↔ s.ppu.Agrees ∧ s.ppu.Settled := by
  constructor
  · rintro ⟨mode, off, settled, blank, vblank, visible, scan, m3Extra⟩
    exact ⟨⟨mode, off, blank, vblank, visible, scan, m3Extra⟩, settled⟩
  · rintro ⟨⟨mode, off, blank, vblank, visible, scan, m3Extra⟩, settled⟩
    exact ⟨mode, off, settled, blank, vblank, visible, scan, m3Extra⟩

/-- The invariant but for the scheduler, at any point of an iteration: no channel is ahead of `now`. -/
structure Devices (s : State) : Prop where
  admissible : s.cfg.Admissible
  mems : s.MemWf
  dmg : s.DmgInv
  ppu : s.ppu.Agrees
  stat : s.ppu.Settled
  apu : s.apu.InRange
  synced : s.apu.synced ≤ (s.now : Int)
  dma : s.dma.Inv

namespace Devices

variable {s t : State}

/-- The devices do not see the queue, the interrupt controller, the timer, the outside and the CPU but for its speed. -/
theorem congr (h : Devices s) (cfg : t.cfg = s.cfg) (cpu : t.cpu = s.cpu) (mems : t.mems = s.mems) (ppu : t.ppu = s.ppu)
    (apu : t.apu = s.apu) (dma : t.dma = s.dma) (cart : ∃ hidden, t.cart = { s.cart with hidden := hidden })
    (now : s.now ≤ t.now) : Devices t := by
  obtain ⟨hidden, cart⟩ := cart
  rcases t with ⟨cfg', sched', cpu', irq', mems', ppu', apu', timer', dma', cart', joypad', serial', out', fault'⟩
  simp only at cfg cpu mems ppu apu dma cart
  subst cfg cpu mems ppu apu dma cart
  exact ⟨h.admissible, h.mems, h.dmg, h.ppu, h.stat, h.apu, h.synced.trans (Int.ofNat_le.2 now), h.dma⟩

/-- A new PPU that agrees with itself, its framebuffer in canonical form. -/
theorem setPpu (h : Devices s) {p : Ppu} (agrees : p.Agrees) (settled : p.Settled)
    (fb : sparseWf s.blankColour (screenW * screenH) 0 p.fb = true) : Devices (s.setPpu p) := by
  obtain ⟨vram, wram, oam, hram, wave, bgPal, objPal, rom, -⟩ := h.mems
  exact ⟨h.admissible, ⟨vram, wram, oam, hram, wave, bgPal, objPal, rom, fb⟩, h.dmg, agrees, settled, h.apu, h.synced, h.dma⟩

/-- A PPU change that the STAT line is re-evaluated after. -/
theorem setPpu_statUpdate (h : Devices s) {p : Ppu} (agrees : p.Agrees)
    (fb : sparseWf s.blankColour (screenW * screenH) 0 p.fb = true) : Devices (s.setPpu p).statUpdate := by
  have settled : Devices (s.setPpu { p with statPrev := p.on && p.statLevel }) :=
    h.setPpu ⟨agrees.mode, agrees.off, agrees.blank, agrees.vblank, agrees.visible, agrees.scan, agrees.m3Extra⟩ rfl fb
  refine settled.congr ?_ ?_ ?_ ?_ ?_ ?_ ?_ ?_
  all_goals simp [State.now]
  exact ⟨_, rfl⟩

theorem setApu (h : Devices s) {a : Apu} (range : a.InRange) (synced : a.synced ≤ (s.now : Int)) : Devices (s.setApu a) :=
  ⟨h.admissible, h.mems, h.dmg, h.ppu, h.stat, range, synced, h.dma⟩

theorem setDma (h : Devices s) {d : Dma} (inv : d.Inv)
    (dmg : s.cfg.model = .dmg → d.active = s.dma.active ∧ d.complete = s.dma.complete ∧ d.remaining = s.dma.remaining) :
    Devices (s.setDma d) := by
  refine ⟨h.admissible, h.mems, h.dmg.of_cgbPart (t := s.setDma d) rfl fun model => ?_, h.ppu, h.stat, h.apu, h.synced, inv⟩
  obtain ⟨active, complete, remaining⟩ := dmg model
  simp [State.cgbPart, active, complete, remaining]

theorem setMems (h : Devices s) {m : Mems} (wf : (s.setMems m).MemWf)
    (dmg : s.cfg.model = .dmg →
      m.vbk = s.mems.vbk ∧ m.svbk = s.mems.svbk ∧ m.bgPal = s.mems.bgPal ∧ m.objPal = s.mems.objPal) :
    Devices (s.setMems m) := by
  refine ⟨h.admissible, wf, h.dmg.of_cgbPart (t := s.setMems m) rfl fun model => ?_, h.ppu, h.stat, h.apu, h.synced, h.dma⟩
  obtain ⟨vbk, svbk, bgPal, objPal⟩ := dmg model
  simp [State.cgbPart, vbk, svbk, bgPal, objPal]

theorem schedule (h : Devices s) (k : Handle) (d : Int) : Devices (s.schedule k d) := by
  refine h.congr ?_ ?_ ?_ ?_ ?_ ?_ ?_ ?_
  all_goals simp [State.now]
  exact ⟨_, rfl⟩

theorem cancel (h : Devices s) (k : Handle) : Devices (s.cancel k) := h.congr rfl rfl rfl rfl rfl rfl ⟨_, rfl⟩ le_rfl

theorem fb (h : Devices s) : sparseWf s.blankColour (screenW * screenH) 0 s.ppu.fb = true := by
  obtain ⟨-, -, -, -, -, -, -, -, fb⟩ := h.mems
  exact fb

/-- A PPU change that concerns none of the items of the invariant. -/
theorem setPpu_plain (h : Devices s) {p : Ppu}
    (same : (p.lcdc, p.statEn, p.ly, p.lyc, p.mode, p.phase, p.statPrev, p.scan, p.m3Extra, p.fb) =
      (s.ppu.lcdc, s.ppu.statEn, s.ppu.ly, s.ppu.lyc, s.ppu.mode, s.ppu.phase, s.ppu.statPrev, s.ppu.scan, s.ppu.m3Extra,
        s.ppu.fb)) : Devices (s.setPpu p) := by
  simp only [Prod.mk.injEq] at same
  obtain ⟨lcdc, statEn, ly, lyc, mode, phase, statPrev, scan, m3Extra, fb⟩ := same
  have on : p.on = s.ppu.on := by rw [Ppu.on, Ppu.on, lcdc]
  refine h.setPpu (h.ppu.congr on mode phase ly scan m3Extra) ?_ (fb ▸ h.fb)
  have settled := h.stat
  unfold Ppu.Settled Ppu.statLevel at settled ⊢
  rw [on, statPrev, statEn, mode, ly, lyc]
  exact settled

end Devices

/-! ## VRAM DMA -/

namespace State

/-- Copying bytes on a CGB keeps the memories in canonical form: the destination stays inside VRAM (R464). -/
theorem vdmaCopyBytes_memWf (n : Nat) {s : State} (cgb : s.cfg.model = .cgb) (wf : s.MemWf) : (vdmaCopyBytes n s).MemWf := by
  induction n generalizing s with
  | zero => exact wf
  | succ n ih =>
    refine ih (s := s.vdmaCopyByte) cgb ?_
    obtain ⟨vram, others⟩ := wf
    refine ⟨Memory.write_wf vram _ ?_, others⟩
    have bank := s.mems.vbk.isLt
    rw [if_pos cgb]
    omega

end State

namespace Devices

variable {s t : State}

/-- Copying bytes on a CGB, the DMA registers in range afterwards. -/
theorem copied (h : Devices s) (cgb : s.cfg.model = .cgb) (n : Nat) {d : Dma} (inv : d.Inv) :
    Devices ((State.vdmaCopyBytes n s).setDma d) := by
  have cfg : (State.vdmaCopyBytes n s).cfg = s.cfg := State.vdmaCopyBytes_keeps (fun s => s.cfg) (fun _ => rfl) n s
  have ppu : (State.vdmaCopyBytes n s).ppu = s.ppu := State.vdmaCopyBytes_keeps (fun s => s.ppu) (fun _ => rfl) n s
  have apu : (State.vdmaCopyBytes n s).apu = s.apu := State.vdmaCopyBytes_keeps (fun s => s.apu) (fun _ => rfl) n s
  have sched : (State.vdmaCopyBytes n s).sched = s.sched := State.vdmaCopyBytes_keeps (fun s => s.sched) (fun _ => rfl) n s
  have model : (State.vdmaCopyBytes n s).cfg.model ≠ .dmg := by rw [cfg, cgb]; exact nofun
  refine ⟨cfg ▸ h.admissible, State.vdmaCopyBytes_memWf n cgb h.mems, fun dmg => absurd dmg model, ppu ▸ h.ppu, ppu ▸ h.stat,
    apu ▸ h.apu, ?_, inv⟩
  have synced := h.synced
  simp only [State.now, State.setDma_sched, State.setDma_apu, sched, apu] at synced ⊢
  exact synced

theorem advance (h : Devices s) (n : Nat) : Devices (s.advance n) :=
  h.congr rfl rfl rfl rfl rfl rfl ⟨_, rfl⟩ (by simp only [State.now, State.advance_cycle, State.advance_staged]; omega)

/-- A general transfer completes (R462). -/
theorem gdma (h : Devices s) (cgb : s.cfg.model = .cgb) (idle : s.dma.active = false) : Devices s.gdma := by
  refine (h.advance (s.dma.remaining * s.cfg.gdmaCyclesPerByte)).copied cgb s.dma.remaining ?_
  have left := State.vdmaCopyBytes_remaining s.dma.remaining (s.advance (s.dma.remaining * s.cfg.gdmaCyclesPerByte))
  have active : (State.vdmaCopyBytes s.dma.remaining (s.advance (s.dma.remaining * s.cfg.gdmaCyclesPerByte))).dma.active =
      false := (State.vdmaCopyBytes_keeps (fun s => s.dma.active) (fun _ => rfl) _ _).trans idle
  rw [State.advance_dma, Nat.sub_self] at left
  simp [Dma.Inv, left, active]

/-- An HBlank copies one block, and ends the transfer if that was the last (R466, R469). -/
theorem hblankDmaStep (h : Devices s) : Devices s.hblankDmaStep := by
  by_cases active : s.cfg.model = .cgb ∧ s.dma.active = true
  · obtain ⟨cgb, active⟩ := active
    obtain ⟨blocks, bound, live, -⟩ := h.dma
    obtain ⟨mode, complete, left⟩ := live active
    have remaining := State.vdmaCopyBytes_remaining 16 s
    have mode' : (State.vdmaCopyBytes 16 s).dma.mode = .hblank :=
      (State.vdmaCopyBytes_keeps (fun s => s.dma.mode) (fun _ => rfl) 16 s).trans mode
    have complete' : (State.vdmaCopyBytes 16 s).dma.complete = false :=
      (State.vdmaCopyBytes_keeps (fun s => s.dma.complete) (fun _ => rfl) 16 s).trans complete
    have copied : ∀ d : Dma, d.Inv → Devices ((State.vdmaCopyBytes 16 s).setDma d) := fun _ inv => h.copied cgb 16 inv
    rw [State.hblankDmaStep_active cgb active]
    generalize State.vdmaCopyBytes 16 s = u at *
    split
    case isTrue none => exact copied _ ⟨by simp [none], by simp [none], nofun, fun _ => none⟩
    case isFalse some =>
      refine copied u.dma ⟨?_, ?_, fun _ => ⟨mode', complete', ?_⟩, fun done => ?_⟩
      · omega
      · omega
      · omega
      · rw [complete'] at done; cases done
  · have idle : s.cfg.model = .dmg ∨ s.dma.active = false := by
      cases model : s.cfg.model with
      | dmg => exact .inl rfl
      | cgb => exact .inr (by simpa [model] using active)
    rw [State.hblankDmaStep_idle idle]
    exact h

/-- A write of HDMA5 cancels, arms or runs a transfer, each of which keeps the invariant (R461, R469). -/
theorem writeHdma5 (h : Devices s) (cgb : s.cfg.model = .cgb) (v : Byte) : Devices (s.writeHdma5 v) := by
  have noDmg : s.cfg.model ≠ .dmg := by rw [cgb]; exact nofun
  have length : (v &&& 0x7F).toNat ≤ 127 := by
    rw [← hdma5_length]; exact Nat.le_of_lt_succ (v.extractLsb' 0 7).isLt
  obtain ⟨blocks, bound, live, done⟩ := h.dma
  rw [State.writeHdma5_eq]
  split
  · exact h.setDma ⟨blocks, bound, nofun, done⟩ fun dmg => absurd dmg noDmg
  · split
    · refine h.setDma ⟨?_, ?_, fun _ => ⟨rfl, rfl, ?_⟩, nofun⟩ fun dmg => absurd dmg noDmg
      all_goals simp only; omega
    · refine gdma (h.setDma ⟨?_, ?_, nofun, nofun⟩ fun dmg => absurd dmg noDmg) cgb rfl
      all_goals simp only; omega

end Devices

end Sys2Proof.Machine

/-! PROOFS. The devices' invariant through bus writes, callbacks and `Commit`. -/

namespace Sys2Proof.Machine

/-! ## Register writes -/

namespace Devices

variable {s t : State}

/-- A change of time bookkeeping, timer, interrupt controller and outside devices only. -/
theorem outside (h : Devices s)
    (same : (t.cfg, t.cpu, t.mems, t.ppu, t.apu, t.dma, t.cart) = (s.cfg, s.cpu, s.mems, s.ppu, s.apu, s.dma, s.cart))
    (now : t.now = s.now) : Devices t := by
  simp only [Prod.mk.injEq] at same
  obtain ⟨cfg, cpu, mems, ppu, apu, dma, cart⟩ := same
  exact h.congr cfg cpu mems ppu apu dma ⟨_, cart⟩ now.ge

/-- The APU caught up to now (R376). -/
theorem apuNow (h : Devices s) : s.apuNow.InRange ∧ s.apuNow.synced = (s.now : Int) :=
  ⟨h.apu.catchUp _ _, Apu.catchUp_synced ..⟩

theorem apuWrite (h : Devices s) (r : ApuReg) (v : Byte) : Devices (s.apuWrite r v) := by
  obtain ⟨range, synced⟩ := h.apuNow
  exact h.setApu (range.write r v) ((Apu.write_synced ..).le.trans synced.le)

theorem writeNr52 (h : Devices s) (v : Byte) : Devices (s.writeNr52 v) := by
  obtain ⟨range, synced⟩ := h.apuNow
  exact h.setApu (range.writeNr52 v) ((Apu.writeNr52_synced ..).le.trans synced.le)

theorem writeWave (h : Devices s) {i : Nat} (small : i < 16) (v : Byte) : Devices (s.writeWave i v) := by
  obtain ⟨range, synced⟩ := h.apuNow
  obtain ⟨vram, wram, oam, hram, wave, others⟩ := h.mems
  exact (h.setApu range synced.le).setMems ⟨vram, wram, oam, hram, Memory.write_wf wave v small, others⟩
    fun _ => ⟨rfl, rfl, rfl, rfl⟩

/-- A write of STAT or LYC: the STAT line is re-evaluated (R353, R354). -/
theorem writeStat (h : Devices s) (v : Byte) : Devices (s.writeStat v) :=
  h.setPpu_statUpdate (h.ppu.congr rfl rfl rfl rfl rfl rfl) h.fb

theorem writeLyc (h : Devices s) (v : Byte) : Devices (s.writeLyc v) :=
  h.setPpu_statUpdate (h.ppu.congr rfl rfl rfl rfl rfl rfl) h.fb

end Devices

/-- The PPU once LCDC has turned the display off (R335). -/
def Ppu.turnedOff (p : Ppu) (v : Byte) (start : Int) : Ppu :=
  { p with
    lcdc := v, ly := 0, mode := .hblank, phase := .off, lineStart := start, statPrev := false, windowLine := 0, scan := []
    m3Extra := 0, fb := [] }

theorem Ppu.turnedOff_agrees (p : Ppu) {v : Byte} (start : Int) (off : v.getLsbD 7 = false) : (p.turnedOff v start).Agrees :=
  ⟨rfl, iff_of_true rfl off, fun _ => rfl, nofun, nofun, Nat.zero_le _, Nat.zero_le _⟩

theorem Ppu.turnedOff_settled (p : Ppu) {v : Byte} (start : Int) (off : v.getLsbD 7 = false) : (p.turnedOff v start).Settled := by
  have dark : (p.turnedOff v start).on = false := off
  rw [Ppu.Settled, dark]
  rfl

/-- The PPU once LCDC has turned the display on, the STAT line not yet re-evaluated (R337). -/
def Ppu.turnedOn (p : Ppu) (v : Byte) (start : Int) : Ppu :=
  { p with lcdc := v, ly := 0, mode := .oamScan, phase := .m2, lineStart := start, windowLine := 0, skipFrame := true }

theorem Ppu.turnedOn_agrees {p : Ppu} (h : p.Agrees) {v : Byte} (start : Int) (on : v.getLsbD 7 = true) :
    (p.turnedOn v start).Agrees := by
  have lit : (p.turnedOn v start).on = true := on
  exact ⟨rfl, iff_of_false nofun (by rw [lit]; exact nofun), nofun, nofun, fun _ => Nat.zero_le _, h.scan, h.m3Extra⟩

namespace Devices

variable {s t : State}

/-- A write of LCDC (R352). -/
theorem writeLcdc (h : Devices s) (v : Byte) : Devices (s.writeLcdc v) := by
  rw [State.writeLcdc_eq]
  by_cases same : s.ppu.lcdc.getLsbD 7 = v.getLsbD 7
  · have settled : ({ s.ppu with lcdc := v } : Ppu).Settled := by
      have before : s.ppu.statPrev = (s.ppu.lcdc.getLsbD 7 && s.ppu.statLevel) := h.stat
      rw [same] at before
      exact before
    rw [if_pos same]
    exact h.setPpu (h.ppu.congr same.symm rfl rfl rfl rfl rfl) settled h.fb
  · rw [if_neg same]
    split
    case isTrue on =>
      rw [State.displayOn_eq _ rfl, State.statUpdate_eq]
      have started := h.setPpu_statUpdate (Ppu.turnedOn_agrees h.ppu (s.now : Int) on) h.fb
      rw [State.statUpdate_eq] at started
      exact started.outside rfl rfl
    case isFalse off =>
      have off := Bool.eq_false_iff.2 off
      rw [State.displayOff_eq]
      exact (h.setPpu (Ppu.turnedOff_agrees s.ppu (s.now : Int) off) (Ppu.turnedOff_settled _ _ off) rfl).outside rfl rfl

/-- A write of a data register of palette memory (R362). -/
theorem writeBcpd (h : Devices s) (cgb : s.cfg.model = .cgb) (v : Byte) : Devices (s.writeBcpd v) := by
  obtain ⟨vram, wram, oam, hram, wave, bgPal, others⟩ := h.mems
  have stored : Devices (s.setMems { s.mems with bgPal := s.mems.bgPal.write s.ppu.bcps.index.toNat v }) :=
    h.setMems ⟨vram, wram, oam, hram, wave, Memory.write_wf bgPal v s.ppu.bcps.index.isLt, others⟩
      fun dmg => absurd (dmg.symm.trans cgb) nofun
  exact stored.setPpu_plain rfl

theorem writeOcpd (h : Devices s) (cgb : s.cfg.model = .cgb) (v : Byte) : Devices (s.writeOcpd v) := by
  obtain ⟨vram, wram, oam, hram, wave, bgPal, objPal, others⟩ := h.mems
  have stored : Devices (s.setMems { s.mems with objPal := s.mems.objPal.write s.ppu.ocps.index.toNat v }) :=
    h.setMems ⟨vram, wram, oam, hram, wave, bgPal, Memory.write_wf objPal v s.ppu.ocps.index.isLt, others⟩
      fun dmg => absurd (dmg.symm.trans cgb) nofun
  exact stored.setPpu_plain rfl

/-- An update of the CPU that on a DMG keeps the speed bits. -/
theorem setCpu (h : Devices s) {c : Cpu}
    (dmg : s.cfg.model = .dmg → c.speed = s.cpu.speed ∧ c.speedArmed = s.cpu.speedArmed) : Devices (s.setCpu c) := by
  refine ⟨h.admissible, h.mems, h.dmg.of_cgbPart (t := s.setCpu c) rfl fun model => ?_, h.ppu, h.stat, h.apu, h.synced, h.dma⟩
  obtain ⟨speed, armed⟩ := dmg model
  simp [State.cgbPart, speed, armed]

/-- A write of a register that its address decodes to. -/
theorem ioWrite (h : Devices s) {a : Word} {r : IoReg} (place : s.region a = .io r) (v : Byte) : Devices (s.ioWrite r v) := by
  have cgb (only : r.cgbOnly = true) : s.cfg.model = .cgb := State.region_io_cgbOnly place only
  have notDmg (only : r.cgbOnly = true) : s.cfg.model ≠ .dmg := by rw [cgb only]; exact nofun
  have dmaInv (d : Dma) (same : (d.mode, d.active, d.complete, d.remaining) =
      (s.dma.mode, s.dma.active, s.dma.complete, s.dma.remaining)) : Devices (s.setDma d) := by
    simp only [Prod.mk.injEq] at same
    obtain ⟨mode, active, complete, remaining⟩ := same
    refine h.setDma ?_ fun _ => ⟨active, complete, remaining⟩
    rw [Dma.Inv, mode, active, complete, remaining]
    exact h.dma
  cases r with
  | joyp | sb | sc => exact h.outside (by simp [State.ioWrite, State.joypadWrite, State.serialWrite]) rfl
  | tima | tma | ifl => exact h.outside rfl rfl
  | div => simp only [State.ioWrite, State.writeDiv_eq]; split <;> exact h.outside rfl rfl
  | tac => simp only [State.ioWrite, State.writeTac_eq]; split <;> exact h.outside rfl rfl
  | nr10 | nr11 | nr12 | nr13 | nr14 | nr21 | nr22 | nr23 | nr24 | nr30 | nr31 | nr32 | nr33 | nr34 | nr41 | nr42 | nr43 | nr44
  | nr50 | nr51 => exact h.apuWrite _ v
  | nr52 => exact h.writeNr52 v
  | wave i =>
    have small := s.region_inRange a h.dmg
    rw [place] at small
    exact h.writeWave small v
  | lcdc => exact h.writeLcdc v
  | stat => exact h.writeStat v
  | lyc => exact h.writeLyc v
  | scy | scx | bgp | obp0 | obp1 | wy | wx | bcps | ocps => exact h.setPpu_plain rfl
  | ly => exact h
  | dma => exact ((dmaInv { s.dma with page := v } rfl).cancel .oamDma).schedule .oamDma s.cfg.oamDmaDelay
  | key1 => exact h.setCpu fun dmg => absurd dmg (notDmg rfl)
  | vbk | svbk => exact h.setMems h.mems fun dmg => absurd dmg (notDmg rfl)
  | bootOff =>
    simp only [State.ioWrite, State.writeBootOff]
    split
    · exact h
    · exact h.setMems h.mems fun _ => ⟨rfl, rfl, rfl, rfl⟩
  | hdma1 | hdma2 | hdma3 | hdma4 => exact dmaInv _ rfl
  | hdma5 => exact h.writeHdma5 (cgb rfl) v
  | bcpd => exact h.writeBcpd (cgb rfl) v
  | ocpd => exact h.writeOcpd (cgb rfl) v

/-- A bus write keeps the devices' invariant. -/
theorem busWrite (h : Devices s) (a : Word) (v : Byte) : Devices (s.busWrite a v) := by
  refine State.busWrite_induct (P := Devices) a v h (fun hidden => ?_) ?_ (fun r place => h.ioWrite place v)
    (h.outside rfl rfl)
  · exact h.congr rfl rfl rfl rfl rfl rfl ⟨hidden, rfl⟩ le_rfl
  · refine h.setMems (State.memWf_store h.mems (s.region_inRange a h.dmg) v) fun _ => ?_
    cases s.region a <;> exact ⟨rfl, rfl, rfl, rfl⟩

end Devices

theorem Effects.devices {s t : State} (h : Effects s t) (inv : Devices s) : Devices t := by
  induction h with
  | refl => exact inv
  | cpu _ c dmg ih => exact ih.setCpu dmg
  | write _ a v ih => exact ih.busWrite a v
  | acknowledge _ i ih => exact ih.outside rfl rfl

end Sys2Proof.Machine

/-! PROOFS. The devices' invariant through the callbacks and `Commit`. -/

namespace Sys2Proof.Machine

/-! ## The PPU event -/

/-- The display is on in every phase but `off` (R52). -/
theorem Ppu.Agrees.on_of_phase {p : Ppu} (h : p.Agrees) (lit : p.phase ≠ .off) : p.on = true := by
  rw [ne_eq, h.off] at lit
  simpa using lit

/-- A PPU with the display on agrees with itself if mode and LY go with the phase. -/
theorem Ppu.Agrees.of_on {p : Ppu} (on : p.on = true) (mode : p.mode = p.phase.mode) (phase : p.phase ≠ .off)
    (vblank : p.phase = .m1 → 144 ≤ p.ly.toNat ∧ p.ly.toNat ≤ 153)
    (visible : p.phase = .m2 ∨ p.phase = .m3 ∨ p.phase = .m0 → p.ly.toNat ≤ 143) (scan : p.scan.length ≤ 10)
    (m3Extra : p.m3Extra ≤ 203) : p.Agrees :=
  ⟨mode, iff_of_false phase (by rw [on]; exact nofun), fun dark => absurd dark phase, vblank, visible, scan, m3Extra⟩

/-- A lengthening of Mode 3 is at most 203 with admissible parameters (R322). -/
theorem State.m3ExtraOf_le {s : State} (h : s.cfg.Admissible) (n : Nat) : s.m3ExtraOf n ≤ 203 := by
  obtain ⟨-, bound, -, -⟩ := h
  unfold State.m3ExtraOf
  by_cases small : n < 11
  · have entry := bound ⟨n, small⟩
    simpa [List.getD_eq_getElem?_getD, small] using entry
  · simp [List.getD_eq_getElem?_getD, small]

namespace Devices

variable {s t : State}

/-- The end of the OAM scan (R330, R339). -/
theorem transferEntry (h : Devices s) (phase : s.ppu.phase = .m2) : Devices s.transferEntry := by
  have lit := h.ppu.on_of_phase (by rw [phase]; exact nofun)
  exact h.setPpu_statUpdate (.of_on lit rfl nofun nofun (fun _ => h.ppu.visible (.inl phase)) (List.length_take_le _ _)
    (State.m3ExtraOf_le h.admissible _)) h.fb

/-- The HBlank entry (R330, R340). -/
theorem hblankEntry (h : Devices s) (phase : s.ppu.phase = .m3) : Devices s.hblankEntry := by
  have lit := h.ppu.on_of_phase (by rw [phase]; exact nofun)
  have line := h.ppu.visible (.inr (.inl phase))
  have drawn (fb : List (Nat × Rgba)) (w : Byte) (wf : sparseWf s.blankColour (screenW * screenH) 0 fb = true) :
      Devices (s.setPpu { s.ppu with phase := .m0, mode := .hblank, fb := fb, windowLine := w }).statUpdate :=
    h.setPpu_statUpdate (.of_on lit rfl nofun nofun (fun _ => line) h.ppu.scan h.ppu.m3Extra) wf
  have picture : Devices s.hblankPicture.statUpdate := by
    unfold State.hblankPicture
    split
    · exact drawn _ _ h.fb
    · exact drawn _ _ (State.drawLine_wf (s := s.setPpu { s.ppu with phase := .m0, mode := .hblank }) h.fb (by omega))
  exact picture.hblankDmaStep

/-- `EV_PPU` before it re-arms itself (R330). -/
theorem ppuTurn (h : Devices s) (late : Int) : Devices (s.ppuTurn late) := by
  unfold State.ppuTurn
  cases phase : s.ppu.phase with
  | off => exact h.setPpu_plain rfl
  | m2 => exact h.transferEntry phase
  | m3 => exact h.hblankEntry phase
  | m0 =>
    have lit := h.ppu.on_of_phase (by rw [phase]; exact nofun)
    have line := h.ppu.visible (.inr (.inr phase))
    simp only
    split
    case isTrue last =>
      have first : 144 ≤ (144 : Byte).toNat ∧ (144 : Byte).toNat ≤ 153 := by decide
      have vblank : Devices (s.setPpu { s.ppu with
          ly := 144, lineStart := (s.sched.cycle : Int) - late, phase := .m1, mode := .vblank }).statUpdate :=
        h.setPpu_statUpdate (.of_on lit rfl nofun (fun _ => first) nofun h.ppu.scan h.ppu.m3Extra) h.fb
      exact vblank.outside (by simp) (by simp [State.now])
    case isFalse more =>
      have next : (s.ppu.ly + 1).toNat ≤ 143 := by bv_omega
      exact h.setPpu_statUpdate (.of_on lit rfl nofun nofun (fun _ => next) h.ppu.scan h.ppu.m3Extra) h.fb
  | m1 =>
    have lit := h.ppu.on_of_phase (by rw [phase]; exact nofun)
    have line := h.ppu.vblank phase
    have mode := h.ppu.mode
    rw [phase] at mode
    simp only
    split
    case isTrue last =>
      exact h.setPpu_statUpdate (.of_on lit rfl nofun nofun (fun _ => Nat.zero_le _) h.ppu.scan h.ppu.m3Extra) h.fb
    case isFalse more =>
      have next : 144 ≤ (s.ppu.ly + 1).toNat ∧ (s.ppu.ly + 1).toNat ≤ 153 := by bv_omega
      refine h.setPpu_statUpdate (.of_on lit ?_ ?_ (fun _ => next) ?_ h.ppu.scan h.ppu.m3Extra) h.fb
      · rw [phase]; exact mode
      · rw [phase]; exact nofun
      · rw [phase]; exact nofun

/-! ## The other events -/

/-- The APU caught up to when an event was due (R376). -/
theorem apuAt (h : Devices s) {late : Int} (past : 0 ≤ late) :
    (s.apuAt late).InRange ∧ (s.apuAt late).synced ≤ (s.now : Int) := by
  refine ⟨h.apu.catchUp _ _, (Apu.catchUp_synced ..).le.trans ?_⟩
  simp only [State.now]
  omega

/-- What a callback does before it re-arms itself keeps the devices' invariant. -/
theorem turn (h : Devices s) (k : Handle) {late : Int} (past : 0 ≤ late) : Devices (s.turn k late) := by
  obtain ⟨range, synced⟩ := h.apuAt past
  cases k with
  | ppu => exact h.ppuTurn late
  | timerInc =>
    have counted (timer : Timer) : Devices (s.setTimer timer) := h.outside rfl rfl
    simp only [State.turn, State.timerCount]
    split
    · exact ((counted _).cancel _).schedule _ _
    · exact counted _
  | timerReload => exact h.outside rfl rfl
  | apuFs => exact h.setApu range.frameStep ((Apu.frameStep_synced _).le.trans synced)
  | apuSample => exact (h.setApu range synced).outside rfl rfl
  | oamDma =>
    obtain ⟨vram, wram, oam, others⟩ := h.mems
    have copied := Memory.foldl_write_wf (List.range oamDmaLen) (fun i => i) (fun i => s.dmaRead (s.oamDmaSource i)) oam
      fun i mem => List.mem_range.1 mem
    simp only [State.turn, State.oamDmaEvent]
    generalize (List.range oamDmaLen).foldl _ s.mems.oam = oam' at copied ⊢
    exact h.setMems ⟨vram, wram, copied, others⟩ fun _ => ⟨rfl, rfl, rfl, rfl⟩

theorem fire (h : Devices s) (k : Handle) {late : Int} (past : 0 ≤ late) : Devices (s.fire k late) := by
  cases recurs : s.wait k with
  | some d =>
    rw [State.fire_recurring recurs]
    exact (h.turn k past).schedule _ _
  | none =>
    rw [State.fire_once recurs]
    exact h.turn k past

theorem raiseFault (h : Devices s) (f : Fault) : Devices (s.raiseFault f) :=
  h.outside (by simp) (by simp [State.now])

/-- `Commit` keeps the devices' invariant. -/
theorem commit (h : Devices s) : Devices s.commit := by
  refine State.commitLoop_induct Devices ?_ ?_ _ _ (h.outside rfl ?_)
  · intro s k due rest inv _ _ late
    have popped : Devices (s.setQueue rest) := inv.outside rfl rfl
    exact popped.fire k (by omega)
  · intro s inv _
    exact inv.raiseFault _
  · simp [State.now, State.fold]

end Devices

/-! ## The statements -/

/-- What the machine's invariant says of the devices. -/
theorem State.Inv.devices {s : State} (h : s.Inv) : Devices s := by
  obtain ⟨admissible, -, ⟨staged, -⟩, mems, dmg, ppu, apu, dma⟩ := h
  obtain ⟨agrees, settled⟩ := s.ppuInv_iff.1 ppu
  obtain ⟨range, synced⟩ := s.apuInv_iff.1 apu
  exact ⟨admissible, mems, dmg, agrees, settled, range, by rwa [State.now, staged], dma⟩

/-- A step of a machine that meets its invariant keeps the devices' part of it, with nothing staged. -/
theorem step_devices {s t : State} (inv : s.Inv) (run : step s = .next t) : Devices t ∧ t.sched.staged = 0 := by
  obtain ⟨u, n, effects, -, rfl, -⟩ := step_effects run
  exact ⟨((effects.devices inv.devices).advance n).commit, (State.commit_clock _).2⟩

/-- Settles O56: the memories are part of the devices' invariant. -/
theorem stepKeepsMemories : Obligations.StepKeepsMemories := fun _ _ inv run => (step_devices inv run).1.mems

/-- Settles O57: the PPU is part of the devices' invariant. -/
theorem stepKeepsPpu : Obligations.StepKeepsPpu := by
  intro s t inv run
  obtain ⟨devices, -⟩ := step_devices inv run
  exact t.ppuInv_iff.2 ⟨devices.ppu, devices.stat⟩

/-- Settles O58: the APU and the DMA engines are part of the devices' invariant, and with nothing staged `now` is the counter. -/
theorem stepKeepsApuAndDma : Obligations.StepKeepsApuAndDma := by
  intro s t inv run
  obtain ⟨devices, staged⟩ := step_devices inv run
  have synced := devices.synced
  rw [State.now, staged] at synced
  exact ⟨t.apuInv_iff.2 ⟨devices.apu, synced⟩, devices.dma⟩

end Sys2Proof.Machine

/-! PROOFS. The queue's invariant through bus writes, callbacks and `Commit`: the scheduler is never misused. -/

namespace Sys2Proof.Machine

/-! ## Replacing an entry of the queue -/

/-- An entry taken out is not pending. -/
theorem isQueued_dequeue_self (h : Handle) (q : List (Handle × Int)) : isQueued h (dequeue h q) = false := by simp

/-- What is pending after an entry has been replaced: that handle, and what was pending (R173, R175). -/
theorem isQueued_rearm (h k : Handle) (d : Int) (q : List (Handle × Int)) :
    isQueued k (enqueue h d (dequeue h q)) = (decide (h = k) || isQueued k q) := by
  rw [isQueued_enqueue, isQueued_dequeue]
  by_cases same : h = k
  · simp [same]
  · simp [same, Ne.symm same]

/-- The order and the distinctness of a queue, whatever it must hold (R22). -/
def Sound (q : List (Handle × Int)) : Prop := dueAscending q = true ∧ handlesDistinct q = true

theorem Sound.dequeue {q : List (Handle × Int)} (h : Sound q) (k : Handle) : Sound (dequeue k q) :=
  ⟨dueAscending_dequeue _ _ h.1, handlesDistinct_dequeue _ _ h.2⟩

theorem Sound.enqueue {q : List (Handle × Int)} (h : Sound q) {k : Handle} (idle : isQueued k q = false) (d : Int) :
    Sound (enqueue k d q) :=
  ⟨dueAscending_enqueue _ _ _ h.1, handlesDistinct_enqueue _ _ _ idle h.2⟩

theorem Sound.rearm {q : List (Handle × Int)} (h : Sound q) (k : Handle) (d : Int) :
    Sound (Machine.enqueue k d (Machine.dequeue k q)) :=
  (h.dequeue k).enqueue (isQueued_dequeue_self k q) d

/-- What must be pending: the three standing events, and the increment as TAC says (R76 c, d). -/
def Complete (q : List (Handle × Int)) (tac : BitVec 3) : Prop :=
  isQueued .ppu q = true ∧ isQueued .apuFs q = true ∧ isQueued .apuSample q = true ∧ isQueued .timerInc q = tacEnabled tac

/-- Completeness is about four handles. -/
theorem Complete.congr {q q' : List (Handle × Int)} {tac : BitVec 3} (h : Complete q tac)
    (same : ∀ k, k ≠ .timerReload → k ≠ .oamDma → isQueued k q' = isQueued k q) : Complete q' tac := by
  obtain ⟨ppu, fs, sample, inc⟩ := h
  exact ⟨(same .ppu nofun nofun).trans ppu, (same .apuFs nofun nofun).trans fs, (same .apuSample nofun nofun).trans sample,
    (same .timerInc nofun nofun).trans inc⟩

/-- Replacing the entry of a handle other than the increment keeps completeness. -/
theorem Complete.rearm {q : List (Handle × Int)} {tac : BitVec 3} (h : Complete q tac) {k : Handle} (other : k ≠ .timerInc)
    (d : Int) : Complete (enqueue k d (dequeue k q)) tac := by
  obtain ⟨ppu, fs, sample, inc⟩ := h
  exact ⟨by rw [isQueued_rearm, ppu, Bool.or_true], by rw [isQueued_rearm, fs, Bool.or_true],
    by rw [isQueued_rearm, sample, Bool.or_true], by rw [isQueued_rearm, inc, decide_eq_false other, Bool.false_or]⟩

/-- Taking out the reload keeps completeness. -/
theorem Complete.dequeueReload {q : List (Handle × Int)} {tac : BitVec 3} (h : Complete q tac) :
    Complete (dequeue .timerReload q) tac :=
  h.congr fun k other _ => by rw [isQueued_dequeue, decide_eq_true other, Bool.true_and]

/-- The increment re-armed while TAC enables it. -/
theorem Complete.rearmInc {q : List (Handle × Int)} {tac tac' : BitVec 3} (h : Complete q tac) (on : tacEnabled tac' = true)
    (d : Int) : Complete (enqueue .timerInc d (dequeue .timerInc q)) tac' := by
  obtain ⟨ppu, fs, sample, -⟩ := h
  exact ⟨by rw [isQueued_rearm, ppu, Bool.or_true], by rw [isQueued_rearm, fs, Bool.or_true],
    by rw [isQueued_rearm, sample, Bool.or_true], by rw [isQueued_rearm, on]; rfl⟩

/-- The increment cancelled while TAC disables it. -/
theorem Complete.cancelInc {q : List (Handle × Int)} {tac tac' : BitVec 3} (h : Complete q tac) (off : tacEnabled tac' = false) :
    Complete (dequeue .timerInc q) tac' := by
  obtain ⟨ppu, fs, sample, -⟩ := h
  simp [Complete, ppu, fs, sample, off]

/-- A queue that is sound and complete (R22, R76 c, d). -/
structure QueueOk (q : List (Handle × Int)) (tac : BitVec 3) : Prop where
  sound : Sound q
  complete : Complete q tac

theorem State.queueInv_iff (s : State) : s.QueueInv ↔ QueueOk s.sched.queue s.timer.tac := by
  constructor
  · rintro ⟨ascending, distinct, ppu, fs, sample, inc⟩
    exact ⟨⟨ascending, distinct⟩, ppu, fs, sample, inc⟩
  · rintro ⟨⟨ascending, distinct⟩, ppu, fs, sample, inc⟩
    exact ⟨ascending, distinct, ppu, fs, sample, inc⟩

/-! ## The CPU's part of an iteration -/

namespace State

/-- The queue is sound and complete for the TAC of the state. -/
def HasQueue (s : State) : Prop := QueueOk s.sched.queue s.timer.tac

theorem HasQueue.congr {s t : State} (h : s.HasQueue) (queue : t.sched.queue = s.sched.queue)
    (tac : t.timer.tac = s.timer.tac) : t.HasQueue := by
  unfold HasQueue
  rw [queue, tac]
  exact h

/-- An event but the increment scheduled anew. -/
theorem HasQueue.rearm {s t : State} (h : s.HasQueue) {k : Handle} (other : k ≠ .timerInc) {d : Int}
    (queue : t.sched.queue = enqueue k d (dequeue k s.sched.queue)) (tac : t.timer.tac = s.timer.tac) : t.HasQueue := by
  unfold HasQueue
  rw [queue, tac]
  exact ⟨h.sound.rearm k d, h.complete.rearm other d⟩

/-- The queue after the display was turned on (R337). -/
theorem displayOn_queue (s : State) :
    s.displayOn.sched.queue = enqueue .ppu ((s.now : Int) + 80) (dequeue .ppu s.sched.queue) := by
  rw [displayOn_eq s rfl]

/-- A register write leaves a sound and complete queue (R439, R440, R451, R335, R337). -/
theorem HasQueue.ioWrite {s : State} (h : s.HasQueue) (r : IoReg) (v : Byte) : (s.ioWrite r v).HasQueue := by
  obtain ⟨sound, complete⟩ := id h
  cases r with
  | div =>
    simp only [State.ioWrite, writeDiv_eq]
    split
    case isTrue on => exact ⟨sound.rearm _ _, complete.rearmInc on _⟩
    case isFalse off => exact ⟨sound.dequeue _, complete.cancelInc (Bool.eq_false_iff.2 off)⟩
  | tac =>
    have bit : tacEnabled (v.extractLsb' 0 3) = v.getLsbD 2 := by simp [tacEnabled]
    simp only [State.ioWrite, writeTac_eq]
    split
    case isTrue on => exact ⟨sound.rearm _ _, complete.rearmInc (bit.trans on) _⟩
    case isFalse off =>
      exact ⟨(sound.dequeue _).dequeue _, (complete.cancelInc (bit.trans (Bool.eq_false_iff.2 off))).dequeueReload⟩
  | lcdc =>
    simp only [State.ioWrite, writeLcdc_eq]
    split
    · exact h
    · split
      · refine h.rearm (s := s) (k := .ppu) (by decide) (displayOn_queue _) ?_
        rw [displayOn_eq _ rfl, statUpdate_eq]
        rfl
      · rw [displayOff_eq]
        exact h.rearm (k := .ppu) (by decide) rfl rfl
  | dma =>
    simp only [State.ioWrite, writeDma, schedule_cancel]
    exact h.rearm (k := .oamDma) (by decide) rfl rfl
  | hdma5 =>
    have same : (s.writeHdma5 v).sched.queue = s.sched.queue ∧ (s.writeHdma5 v).timer.tac = s.timer.tac := by
      rw [writeHdma5_eq]
      split
      · exact ⟨rfl, rfl⟩
      · split
        · exact ⟨rfl, rfl⟩
        · simp
    exact h.congr same.1 same.2
  | bootOff =>
    simp only [State.ioWrite, writeBootOff]
    split <;> exact h
  | _ =>
    refine h.congr ?_ ?_ <;>
      simp [State.ioWrite, joypadWrite, serialWrite, writeIf, writeKey1, apuWrite, writeNr52, writeWave, writeStat, writeLyc,
        writeBcpd, writeOcpd]

theorem HasQueue.busWrite {s : State} (h : s.HasQueue) (a : Word) (v : Byte) : (s.busWrite a v).HasQueue :=
  busWrite_induct (P := HasQueue) a v h (fun _ => h) h (fun r _ => h.ioWrite r v) h

end State

theorem Effects.hasQueue {s t : State} (h : Effects s t) (inv : s.HasQueue) : t.HasQueue := by
  induction h with
  | refl => exact inv
  | cpu _ c _ ih => exact ih
  | write _ a v ih => exact ih.busWrite a v
  | acknowledge _ i ih => exact ih

/-! ## Commit -/

/-- The queue left when the head has been taken out: sound, and complete but for the head's handle. -/
theorem Sound.tail {h : Handle} {due : Int} {rest : List (Handle × Int)} (sound : Sound ((h, due) :: rest)) :
    Sound rest ∧ isQueued h rest = false := by
  obtain ⟨ascending, distinct⟩ := sound
  simp only [dueAscending, handlesDistinct, Bool.and_eq_true, Bool.not_eq_true'] at ascending distinct
  exact ⟨⟨ascending.2, distinct.2⟩, distinct.1⟩

theorem isQueued_cons (h k : Handle) (due : Int) (rest : List (Handle × Int)) :
    isQueued k ((h, due) :: rest) = (decide (h = k) || isQueued k rest) := rfl

namespace State

@[simp] theorem turn_fault (s : State) (h : Handle) (late : Int) : (s.turn h late).fault = s.fault := by
  cases h with
  | ppu =>
    simp only [turn, ppuTurn]
    cases s.ppu.phase with
    | off => rfl
    | m2 => exact statUpdate_fault _
    | m3 => exact s.hblankEntry_fault
    | m0 => simp only; split <;> exact statUpdate_fault _
    | m1 => simp only; split <;> exact statUpdate_fault _
  | timerInc =>
    simp only [turn, timerCount]
    split
    · rw [schedule_cancel]; rfl
    · rfl
  | timerReload | apuFs | apuSample => rfl
  | oamDma => rw [turn, oamDmaEvent, setMems_fault]

@[simp] theorem turn_tac (s : State) (h : Handle) (late : Int) : (s.turn h late).timer.tac = s.timer.tac := by
  cases h with
  | ppu =>
    simp only [turn, ppuTurn]
    cases s.ppu.phase with
    | off => rfl
    | m2 => exact congrArg _ (statUpdate_timer _)
    | m3 => exact congrArg _ s.hblankEntry_timer
    | m0 => simp only; split <;> exact congrArg _ (statUpdate_timer _)
    | m1 => simp only; split <;> exact congrArg _ (statUpdate_timer _)
  | timerInc =>
    simp only [turn, timerCount]
    split
    · rw [schedule_cancel]; rfl
    · rfl
  | timerReload | apuFs | apuSample => rfl
  | oamDma => rw [turn, oamDmaEvent, setMems_timer]

/-- Of the queue a turn changes at most the reload's entry, and that only if it is the increment's (R436). -/
theorem turn_queue (s : State) (h : Handle) (late : Int) :
    (s.turn h late).sched.queue = s.sched.queue ∨
      h = .timerInc ∧ ∃ d, (s.turn h late).sched.queue = enqueue .timerReload d (dequeue .timerReload s.sched.queue) := by
  by_cases inc : h = .timerInc
  · subst inc
    by_cases overflow : s.timer.tima + 1 = 0
    · have queue : s.turn .timerInc late = _ := if_pos overflow
      rw [queue, schedule_cancel]
      exact .inr ⟨rfl, _, rfl⟩
    · have queue : s.turn .timerInc late = _ := if_neg overflow
      rw [queue]
      exact .inl rfl
  · exact .inl (congrArg Sched.queue (turn_sched inc late))

/-- After the turn of the head the queue is still sound, the head's handle idle, and only the reload may be new. -/
theorem turn_sound {s : State} {h : Handle} (sound : Sound s.sched.queue) (idle : isQueued h s.sched.queue = false)
    (late : Int) :
    Sound (s.turn h late).sched.queue ∧ isQueued h (s.turn h late).sched.queue = false ∧
      ∀ k, k ≠ .timerReload → isQueued k (s.turn h late).sched.queue = isQueued k s.sched.queue := by
  rcases s.turn_queue h late with queue | ⟨rfl, d, queue⟩
  · rw [queue]
    exact ⟨sound, idle, fun _ _ => rfl⟩
  · rw [queue]
    refine ⟨sound.rearm _ _, ?_, fun k other => ?_⟩
    · rw [isQueued_rearm, idle]; rfl
    · rw [isQueued_rearm, decide_eq_false other.symm, Bool.false_or]

/-- The callback of the head runs without a misuse of the scheduler and leaves a sound and complete queue (R174, R176). -/
theorem HasQueue.fire {s : State} (inv : s.HasQueue) {h : Handle} {due : Int} {rest : List (Handle × Int)}
    (head : s.sched.queue = (h, due) :: rest) (late : Int) :
    ((s.setQueue rest).fire h late).HasQueue ∧ ((s.setQueue rest).fire h late).fault = s.fault := by
  obtain ⟨sound, complete⟩ := inv
  rw [head] at sound complete
  obtain ⟨tail, idle⟩ := sound.tail
  obtain ⟨sound', idle', same⟩ := turn_sound (s := s.setQueue rest) tail idle late
  have tac : ((s.setQueue rest).turn h late).timer.tac = s.timer.tac := turn_tac _ _ _
  cases recurs : (s.setQueue rest).wait h with
  | some d =>
    rw [fire_recurring recurs, schedule_idle idle']
    refine ⟨⟨sound'.enqueue idle' _, ?_⟩, turn_fault _ _ _⟩
    change Complete _ ((s.setQueue rest).turn h late).timer.tac
    rw [tac]
    refine complete.congr fun k other _ => ?_
    change isQueued k (enqueue h _ ((s.setQueue rest).turn h late).sched.queue) = _
    rw [isQueued_enqueue, same k other, isQueued_cons]
    rfl
  | none =>
    rw [fire_once recurs]
    refine ⟨⟨sound', ?_⟩, turn_fault _ _ _⟩
    rw [tac]
    refine complete.congr fun k other notDma => ?_
    have notHead : h ≠ k := by
      rintro rfl
      cases h with
      | timerReload => exact other rfl
      | oamDma => exact notDma rfl
      | _ => cases recurs
    rw [same k other, isQueued_cons, decide_eq_false notHead]
    rfl

/-- `Commit` leaves a sound and complete queue. -/
theorem HasQueue.commit {s : State} (h : s.HasQueue) : s.commit.HasQueue := by
  refine commitLoop_induct HasQueue (fun t k due rest inv _ head _ => (inv.fire head _).1) ?_ _ _ h
  intro t inv _
  exact inv.congr (congrArg Sched.queue (raiseFault_sched t _)) (congrArg Timer.tac (raiseFault_timer t _))

end State

/-- No effect moves the committed counter (R20). -/
theorem Effects.cycle {s t : State} (h : Effects s t) : t.sched.cycle = s.sched.cycle := by
  induction h with
  | refl => rfl
  | cpu _ c _ ih => exact ih
  | write _ a v ih => rwa [State.busWrite_cycle]
  | acknowledge _ i ih => exact ih

/-- Settles O55: the queue stays sound and complete, `Commit` ends with nothing overdue, and the charge is positive. -/
theorem stepKeepsScheduler : Obligations.StepKeepsScheduler := by
  intro s t inv run
  obtain ⟨u, n, effects, pos, rfl, healthy⟩ := step_effects run
  obtain ⟨-, -, sched, -⟩ := inv
  obtain ⟨-, -, queue⟩ := id sched
  have before : (u.advance n).HasQueue := effects.hasQueue (s.queueInv_iff.1 queue)
  have after : ((u.advance n).commit).HasQueue := before.commit
  obtain ⟨cycle, staged⟩ := State.commit_clock (u.advance n)
  have settled := State.commitLoop_settled _ _ healthy
  refine ⟨⟨staged, State.ahead_of_not_overdue after.sound.1 settled, State.queueInv_iff _ |>.2 after⟩, ?_⟩
  have charged := pos sched
  rw [cycle, State.advance_cycle, State.advance_staged, effects.cycle]
  omega

end Sys2Proof.Machine

/-! PROOFS. `Commit` ends: every callback lowers the load of the queue, which the bound of the loop covers. -/

namespace Sys2Proof.Machine

/-! ## The load of a queue -/

/-- How many callbacks an entry can still cause at a given cycle: a recurring event one for each cycle from its due cycle on, the
increment twice that for the reloads it schedules, an event that does not recur one if it is due. -/
def weight (cycle : Int) (h : Handle) (due : Int) : Nat :=
  match h with
  | .ppu | .apuFs | .apuSample => (cycle - due + 1).toNat
  | .timerInc => 2 * (cycle - due + 1).toNat
  | .timerReload | .oamDma => if due ≤ cycle then 1 else 0

/-- The callbacks that a queue can still cause at a given cycle. -/
def load (cycle : Int) (q : List (Handle × Int)) : Nat := (q.map fun p => weight cycle p.1 p.2).sum

theorem load_cons (cycle : Int) (h : Handle) (due : Int) (q : List (Handle × Int)) :
    load cycle ((h, due) :: q) = weight cycle h due + load cycle q := by simp [load]

theorem load_enqueue (cycle : Int) (h : Handle) (due : Int) (q : List (Handle × Int)) :
    load cycle (enqueue h due q) = weight cycle h due + load cycle q := by
  induction q with
  | nil => exact load_cons ..
  | cons p q ih =>
    obtain ⟨k, t⟩ := p
    rw [enqueue]
    split
    · rw [load_cons, ih, load_cons]; omega
    · rw [load_cons]

theorem load_dequeue_le (cycle : Int) (h : Handle) (q : List (Handle × Int)) : load cycle (dequeue h q) ≤ load cycle q :=
  (List.filter_sublist.map _).sum_le_sum fun _ _ => Nat.zero_le _

/-- A due entry has weight. -/
theorem weight_pos {cycle due : Int} (h : Handle) (late : due ≤ cycle) : 0 < weight cycle h due := by
  cases h with
  | timerReload | oamDma => simp [weight, late]
  | _ => simp only [weight]; omega

/-- The reload weighs at most one. -/
theorem weight_reload_le (cycle due : Int) : weight cycle .timerReload due ≤ 1 := by
  simp only [weight]
  split <;> omega

/-- A recurring event loses weight when it is due again later, the increment enough for a reload besides. -/
theorem weight_again {s : State} {h : Handle} {d cycle due : Int} (recurs : s.wait h = some d) (pos : 0 < d)
    (late : due ≤ cycle) : weight cycle h (due + d) + (if h = .timerInc then 2 else 1) ≤ weight cycle h due := by
  cases h with
  | timerReload | oamDma => cases recurs
  | _ => simp [weight]; omega

namespace State

/-- A recurring event is due again at least one cycle later (R322, R419, R432). -/
theorem wait_pos {s : State} (inv : Devices s) {h : Handle} {d : Int} (recurs : s.wait h = some d) : 0 < d := by
  cases h with
  | timerReload | oamDma => cases recurs
  | ppu =>
    cases recurs
    have short := inv.ppu.m3Extra
    unfold ppuWait
    split <;> (try split) <;> omega
  | timerInc =>
    cases recurs
    exact Int.natCast_pos.2 (timaPeriod_pos _)
  | apuFs => cases recurs; decide
  | apuSample =>
    cases recurs
    obtain ⟨-, -, period, -⟩ := inv.admissible
    exact Int.natCast_pos.2 period

/-- A turn takes no time. -/
theorem turn_now (s : State) (h : Handle) (late : Int) : (s.turn h late).now = s.now := by
  by_cases inc : h = .timerInc
  · subst inc
    simp only [turn, timerCount]
    split
    · rw [schedule_cancel]; rfl
    · rfl
  · rw [now, turn_sched inc, now]

/-- A turn adds at most the reload to the load, and that only if it is the increment's. -/
theorem turn_load_le (s : State) (h : Handle) (late cycle : Int) :
    load cycle (s.turn h late).sched.queue ≤ load cycle s.sched.queue + (if h = .timerInc then 1 else 0) := by
  rcases s.turn_queue h late with queue | ⟨rfl, d, queue⟩
  · rw [queue]; omega
  · rw [queue, load_enqueue, if_pos rfl]
    have reload := weight_reload_le cycle d
    have kept := load_dequeue_le cycle .timerReload s.sched.queue
    omega

/-- Firing the head of the queue lowers the load. -/
theorem fire_load_lt {s : State} (inv : Devices s) (queue : s.HasQueue) (staged : s.sched.staged = 0) {h : Handle} {due : Int}
    {rest : List (Handle × Int)} (head : s.sched.queue = (h, due) :: rest) (late : due ≤ (s.sched.cycle : Int)) :
    load s.sched.cycle ((s.setQueue rest).fire h ((s.sched.cycle : Int) - due)).sched.queue <
      load s.sched.cycle s.sched.queue := by
  have popped : Devices (s.setQueue rest) := inv.outside rfl rfl
  obtain ⟨sound, -⟩ := queue
  rw [head] at sound ⊢
  obtain ⟨tail, idle⟩ := sound.tail
  obtain ⟨-, idle', -⟩ := turn_sound (s := s.setQueue rest) tail idle ((s.sched.cycle : Int) - due)
  have turned := (s.setQueue rest).turn_load_le h ((s.sched.cycle : Int) - due) s.sched.cycle
  rw [setQueue_queue] at turned
  rw [load_cons]
  cases recurs : (s.setQueue rest).wait h with
  | some d =>
    have again := weight_again (cycle := (s.sched.cycle : Int)) recurs (wait_pos popped recurs) late
    have due_again : (((s.setQueue rest).turn h ((s.sched.cycle : Int) - due)).now : Int) + (d - ((s.sched.cycle : Int) - due)) =
        due + d := by
      rw [turn_now, setQueue_now, now, staged]; omega
    rw [fire_recurring recurs, schedule_idle idle', setQueue_queue, load_enqueue, due_again]
    by_cases inc : h = .timerInc
    · rw [if_pos inc] at again turned
      omega
    · rw [if_neg inc] at again turned
      omega
  | none =>
    have once : h ≠ .timerInc := by rintro rfl; cases recurs
    have heavy := weight_pos h late
    rw [fire_once recurs]
    rw [if_neg once] at turned
    omega

/-! ## The loop ends -/

/-- Without load nothing is due. -/
theorem not_overdue_of_load {s : State} (none : load s.sched.cycle s.sched.queue = 0) : s.overdue = false := by
  unfold overdue
  split
  case h_1 => rfl
  case h_2 h due rest head =>
    rw [head, load_cons] at none
    refine decide_eq_false fun late => ?_
    have := weight_pos h late
    omega

/-- With as much fuel as load the loop of `Commit` ends without a fault. -/
theorem commitLoop_healthy {fuel : Nat} {s : State} (inv : Devices s) (queue : s.HasQueue) (staged : s.sched.staged = 0)
    (healthy : s.fault = none) (enough : load s.sched.cycle s.sched.queue ≤ fuel) : (commitLoop fuel s).fault = none := by
  induction fuel generalizing s with
  | zero =>
    unfold commitLoop
    rw [not_overdue_of_load (Nat.le_zero.1 enough), if_neg Bool.false_ne_true]
    exact healthy
  | succ fuel ih =>
    unfold commitLoop
    simp only [healthy]
    cases fired : s.fireHead with
    | none => exact healthy
    | some t =>
      unfold fireHead at fired
      split at fired
      case h_1 => cases fired
      case h_2 h due rest head =>
        split at fired
        case isFalse => cases fired
        case isTrue late =>
          cases fired
          have popped : Devices (s.setQueue rest) := inv.outside rfl rfl
          obtain ⟨-, -, -, -, -, cycle, staged'⟩ := fire_frame (s.setQueue rest) h ((s.sched.cycle : Int) - due)
          obtain ⟨queue', fault⟩ := queue.fire head ((s.sched.cycle : Int) - due)
          refine ih (popped.fire h (by omega)) queue' (staged'.trans staged) (fault.trans healthy) ?_
          have less := fire_load_lt inv queue staged head late
          rw [cycle, setQueue_cycle]
          omega

end State

/-! ## The bound covers the load -/

/-- The most an entry weighs when no entry is overdue by more than `lateness`. -/
def weightBound (lateness : Nat) (h : Handle) : Nat :=
  match h with
  | .ppu | .apuFs | .apuSample => lateness + 1
  | .timerInc => 2 * (lateness + 1)
  | .timerReload | .oamDma => 1

theorem weight_le_bound {cycle due : Int} {lateness : Nat} (h : Handle) (bound : cycle - due ≤ lateness) :
    weight cycle h due ≤ weightBound lateness h := by
  cases h with
  | timerReload | oamDma => simp only [weight, weightBound]; split <;> omega
  | _ => simp only [weight, weightBound]; omega

/-- The six handles (R24). -/
def handles : List Handle := [.ppu, .timerInc, .timerReload, .apuFs, .apuSample, .oamDma]

theorem mem_handles (h : Handle) : h ∈ handles := by cases h <;> decide

/-- The handles of a sound queue are distinct. -/
theorem nodup_of_handlesDistinct {q : List (Handle × Int)} (distinct : handlesDistinct q = true) : (q.map Prod.fst).Nodup := by
  induction q with
  | nil => exact List.nodup_nil
  | cons p q ih =>
    obtain ⟨h, due⟩ := p
    simp only [handlesDistinct, Bool.and_eq_true, Bool.not_eq_true'] at distinct
    refine List.nodup_cons.2 ⟨fun mem => ?_, ih distinct.2⟩
    obtain ⟨p, mem, same⟩ := List.mem_map.1 mem
    have queued : isQueued h q = true := List.any_eq_true.2 ⟨p, mem, decide_eq_true same⟩
    rw [distinct.1] at queued
    cases queued

/-- Over distinct handles a sum is at most the sum over all six. -/
theorem sum_le_handles (f : Handle → Nat) {l : List Handle} (distinct : l.Nodup) : (l.map f).sum ≤ (handles.map f).sum := by
  obtain ⟨l', perm, sub⟩ := distinct.subperm fun h _ => mem_handles h
  rw [← (perm.map f).sum_eq]
  exact (sub.map f).sum_le_sum fun _ _ => Nat.zero_le _

/-- The load of a sound queue of which no entry is overdue by more than `lateness`. -/
theorem load_le {cycle : Int} {q : List (Handle × Int)} {lateness : Nat} (distinct : handlesDistinct q = true)
    (bound : ∀ p ∈ q, cycle - p.2 ≤ lateness) : load cycle q ≤ 5 * (lateness + 1) + 2 := by
  calc load cycle q
    _ ≤ (q.map fun p => weightBound lateness p.1).sum :=
      List.sum_le_sum fun p mem => weight_le_bound p.1 (bound p mem)
    _ = ((q.map Prod.fst).map (weightBound lateness)).sum := by rw [List.map_map]; rfl
    _ ≤ (handles.map (weightBound lateness)).sum := sum_le_handles _ (nodup_of_handlesDistinct distinct)
    _ = 5 * (lateness + 1) + 2 := by simp only [handles, List.map, List.sum_cons, List.sum_nil, weightBound]; omega

namespace State

/-- The fuel of `Commit` covers the load of a sound queue (log 13). -/
theorem load_le_fuel {s : State} (sound : Sound s.sched.queue) : load s.sched.cycle s.sched.queue ≤ s.commitFuel := by
  obtain ⟨ascending, distinct⟩ := sound
  have bound : ∀ p ∈ s.sched.queue, (s.sched.cycle : Int) - p.2 ≤ (s.headLateness : Int) := by
    intro p mem
    unfold headLateness
    split
    case h_1 empty => rw [empty] at mem; cases mem
    case h_2 h due rest head =>
      rw [head] at mem ascending
      simp only [dueAscending, Bool.and_eq_true, List.all_eq_true, decide_eq_true_eq] at ascending
      rcases List.mem_cons.1 mem with rfl | later
      · simp only; omega
      · have := ascending.1 p later
        omega
  have total := load_le distinct bound
  unfold commitFuel
  omega

/-- `Commit` of a state that meets its invariant but for the clock records no fault (R174, R176, log 13). -/
theorem commit_healthy {s : State} (inv : Devices s) (queue : s.HasQueue) (healthy : s.fault = none) :
    s.commit.fault = none := by
  have folded : Devices s.fold := inv.outside rfl (by simp [now, fold])
  exact commitLoop_healthy folded queue rfl healthy (load_le_fuel (s := s.fold) queue.sound)

end State

/-- Settles O60: `Commit` ends without a fault, so the one other end of an iteration with an event pending is the fatal error. -/
theorem onlyIllegalOpcodesStop : Obligations.OnlyIllegalOpcodesStop := by
  intro s inv
  obtain ⟨-, healthy, ⟨-, -, pending⟩, -⟩ := id inv
  have queue : s.HasQueue := s.queueInv_iff.1 pending
  cases iterate_ends healthy with
  | commits u n effects _ eq =>
    have charged : Devices (u.advance n) := (effects.devices inv.devices).advance n
    have ok := State.commit_healthy charged (effects.hasQueue queue) (effects.fault.trans healthy)
    exact .inl ⟨_, State.step_of_iterate healthy eq ok⟩
  | illegal t opcode fault eq =>
    refine .inr ⟨State.step_of_fault healthy eq ?_, opcode⟩
    rw [State.raiseFault_of_none (fault.trans healthy)]
  | noEvent t empty eq =>
    have ppu := queue.complete.1
    rw [empty] at ppu
    cases ppu

end Sys2Proof.Machine
